-- ==== Sys2Proof/Word.lean ====
section
/-! DEFINITION. The word types of dsviewdata CORE: the bytes, the 13 levels of a Sample, patterns, transition keys,
and exact times in milliseconds. -/

namespace Sys2Proof

/-- A byte, 0 to 255 (00_scope.md section 5). -/
abbrev Byte := BitVec 8

/-- The 13 levels `lv[12:0]` of a Sample, bit k the level of logical channel k (R60, R61). -/
abbrev Levels := BitVec 13

/-- A pattern: one 3-bit predicate code per channel, channel k at bits `[3k + 2 : 3k]` (R62). -/
abbrev Pattern := BitVec 39

/-- An 8-bit transition key (R68). -/
abbrev Key := BitVec 8

/-- A time of `num / den` milliseconds, an exact non-negative rational, kept as the pair so that nothing is ever
rounded (R90, R97). -/
structure Time where
  num : Nat
  den : Nat
  deriving DecidableEq, Repr

/-- The Command: exactly 3 bytes, `b0` first on the bus (R71). -/
structure Command where
  b0 : Byte
  b1 : Byte
  b2 : Byte
  deriving DecidableEq, Repr

/-- The chip select CORE follows for the current candidate (R15, R67). -/
inductive Track where
  | cs1
  | cs2
  deriving DecidableEq, Repr, Inhabited

/-- The device of a decoded frame (R67, R78). -/
inductive Device where
  | primary
  | secondary
  deriving DecidableEq, Repr

end Sys2Proof
end

