-- ==== Sys2Proof/Machine/Params.lean ====
section
/-! DEFINITION. The fixed constants of R6 and the decided parameters of R8, each under the spec's name. -/

namespace Sys2Proof.Machine

/-- `CMD_LEN` (R6). -/
def cmdLen : Nat := 3
/-- `FRAME_LEN` (R6). -/
def frameLen : Nat := 132
/-- `PAGE_BASE` (R6). -/
def pageBase : Nat := 176
/-- `N_PAGES` (R6). -/
def nPages : Nat := 8
/-- `BAND_H` (R6). -/
def bandH : Nat := 8
/-- `COL_OFF_SECONDARY` (R6). -/
def colOffSecondary : Nat := 132
/-- `W` (R6). -/
def gridW : Nat := 264
/-- `H` (R6). -/
def gridH : Nat := 64
/-- `T_START_MAX` = 12/5 ms, exclusive (R6). -/
def tStartMax : Time := ⟨12, 5⟩
/-- `T_CLK_MIN` = 37/10 ms, inclusive (R6). -/
def tClkMin : Time := ⟨37, 10⟩
/-- `T_CLK_MAX` = 42/10 ms, inclusive (R6). -/
def tClkMax : Time := ⟨42, 10⟩
/-- `N_CHANNELS` (R6). -/
def nChannels : Nat := 13
/-- The channels CORE reads: cs1, cs2, clk, d0 to d7 (R150). -/
def neededChannels : BitVec 13 := 0x1FE7

/-- The switch `PACK_ORDER` (R8, D8). -/
inductive PackOrder where
  | d0Lsb
  | d0Msb
  deriving DecidableEq, Repr

/-- The switch `ROW_ORDER` (R8, D12). -/
inductive RowOrder where
  | bit7Top
  | bit0Top
  deriving DecidableEq, Repr

/-- `PACK_ORDER` of this hardware (R8). -/
def packOrder : PackOrder := .d0Lsb
/-- `ROW_ORDER` of this hardware (R8). -/
def rowOrder : RowOrder := .bit7Top
/-- `SEL_TRUE` of this hardware: the device that a true DeviceSelector means (R8, D10). -/
def selTrue : Device := .secondary
/-- `EMIT_RECORD` of this hardware (R8, D14). -/
def emitRecord : Bool := true
/-- `CS_ACTIVE_LEVEL` of this hardware: both chip selects are active low (R8, D3). -/
def csActiveLevel : Bool := false

end Sys2Proof.Machine
end

