-- ==== Sys2Proof/Config.lean ====
section
/-! DEFINITION. The free values: what the spec leaves unspecified and never reads. Opaque constants without a body, applied
to a counter that State holds, so that no proof can rest on a value (notes/assumptions/6.md). The constants of R6 and R8
are in Machine/Params.lean; the open parameters of R7 are fields of State. -/

namespace Sys2Proof

/-- The content of `track` after a reset release: "unspecified; dead" (R32). -/
opaque Config.freeTrack : Nat → Track

/-- The content of `cand_idx` and `ref_idx` after a reset release: "unspecified; dead" (R32). -/
opaque Config.freeIndex : Nat → Nat

/-- The content of `prev` after a reset release: "unspecified; dead" (R32). -/
opaque Config.freeLevels : Nat → Levels

end Sys2Proof
end

