-- ==== Sys2Proof/Syntax.lean ====
section
/-! DEFINITION. The operations of dsviewdata CORE: one constructor per row of spec/opcode_table.json, and the formats of
R83 that the rows belong to. An operation is what R9 says takes the place of an instruction. -/

namespace Sys2Proof

/-- The formats of the operation table (R83). -/
inductive Format where
  | tk
  | rst
  | cmd
  | col
  | req
  | rsp
  | ev
  | fn
  deriving DecidableEq, Repr

/-- One constructor per row of spec/opcode_table.json. The bits a `TK` row masks out do not influence it (R68), so those
rows carry no operand: what they read is the response that the state holds. -/
inductive Instr where
  /-- FS.A (R102) -/
  | fsA
  /-- FS.B (R103) -/
  | fsB
  /-- VS.ACC (R104) -/
  | vsAcc
  /-- VS.REJ (R105) -/
  | vsRej
  /-- NC.ACC (R106) -/
  | ncAcc
  /-- NC.FIN (R107) -/
  | ncFin
  /-- NC.REJ (R108) -/
  | ncRej
  /-- RD.ACC (R109) -/
  | rdAcc
  /-- RD.FIN (R110) -/
  | rdFin
  /-- RD.BAD (R111) -/
  | rdBad
  /-- EOS (R112) -/
  | eos
  /-- HALT.NOP (R113) -/
  | haltNop
  /-- RST.OK (R187) -/
  | rstOk
  /-- RST.CFGERR (R188) -/
  | rstCfgerr
  /-- SETPAGE: the legal Command `{0b10110 p, c, a}` (R71, R121) -/
  | setpage (p : BitVec 3) (c a : Byte)
  /-- COL: one payload byte (R72, R123) -/
  | col (v : Byte)
  /-- REQ.NONE (R64, R135) -/
  | reqNone
  /-- REQ.START (R64, R135) -/
  | reqStart
  /-- REQ.CLK1 (R64, R135) -/
  | reqClk1
  /-- REQ.CLK2 (R64, R135) -/
  | reqClk2
  /-- RSP.MATCH (R65, R135) -/
  | rspMatch
  /-- RSP.EOS (R65, R139) -/
  | rspEos
  /-- SET_PIXEL (R77, R125) -/
  | setPixel (x : BitVec 9) (y : BitVec 6) (on : Bool)
  /-- PRESENT (R77, R128) -/
  | present
  /-- RECORD (R77, R129) -/
  | record (page : BitVec 3) (device : Device)
  /-- ERROR (R77, R168) -/
  | error (code : BitVec 3) (info : Byte)
  /-- TIMEDELTA (R90) -/
  | timedelta
  /-- CLASSIFY_START (R91) -/
  | classifyStart
  /-- CLASSIFY_CLOCK_PERIOD (R92) -/
  | classifyClockPeriod
  /-- PACK (R147) -/
  | pack
  /-- SEL (R115) -/
  | sel
  /-- PAGE_DECODE (R121) -/
  | pageDecode
  /-- RENDER (R120) -/
  | render
  /-- MATCH_PATTERN (R136) -/
  | matchPattern
  deriving DecidableEq, Repr

end Sys2Proof
end

