-- ==== Sys2Proof/Machine/State.lean ====
section
/-! DEFINITION. The state of dsviewdata CORE: every piece of state the spec gives the machine (INVENTORY.md), the
model's own fields beside it, the reasons a step can stop, and the state after reset. -/

namespace Sys2Proof.Machine

/-- The sequencing state (R14). -/
inductive Fsm where
  | findStart
  | verifyStart
  | findNextStartClk
  | readData
  | halted
  deriving DecidableEq, Repr

/-- The four error kinds (R160). -/
inductive ErrorKind where
  | channelConfiguration
  | timingRejection
  | unknownPageCode
  | streamEnded
  deriving DecidableEq, Repr

/-- What a wait returns (R65). -/
inductive Response where
  /-- `Match(alt, s)`: the alternative, the index and the levels of the matching Sample -/
  | matched (alt : BitVec 1) (idx : Nat) (lv : Levels)
  /-- `EndOfStream` -/
  | endOfStream
  deriving DecidableEq, Repr

/-- The output events (R77); a record carries its payload bytes in capture order (R78). -/
inductive Event where
  | setPixel (x : BitVec 9) (y : BitVec 6) (on : Bool)
  | present
  | record (page : BitVec 3) (device : Device) (bytes : List Byte)
  | error (code : BitVec 3) (info : Byte)
  deriving DecidableEq, Repr

/-- The PixelGrid (R41): the cells that are on, as (address, byte) pairs. The address of cell (x, y) is `64 x + y`, the
concatenation of the two fields in the event word (R77); the byte is 1 (notes/assumptions/16.md). -/
abbrev Memory := List Host.Cell

/-- Which ports the instance has (R152: one or the other, not both). -/
inductive PortLevel where
  /-- the front-end is outside: responses are handed in -/
  | levelA
  /-- the front-end is inside: raw Samples are handed in -/
  | levelB
  deriving DecidableEq, Repr

/-- The operands of a directly called operation, the model's own (notes/assumptions/8.md). -/
structure Args where
  /-- the two sample indices of TIMEDELTA -/
  a : Nat
  b : Nat
  /-- the time of the two classifiers -/
  q : Time
  /-- the Sample of PACK, SEL and MATCH_PATTERN -/
  lv : Levels
  /-- the pattern of MATCH_PATTERN -/
  pat : Pattern
  /-- the Command, the payload and the DeviceSelector of the renderer -/
  cmd : Command
  pay : Vector Byte 132
  sel : Bool
  /-- the byte index of the next payload byte drawn by COL -/
  colIdx : Nat
  deriving DecidableEq, Repr

/-- What a directly called function returned, the model's own (notes/assumptions/8.md). -/
inductive Ret where
  | none
  | time (t : Time)
  | verdict (b : Bool)
  | byte (b : Byte)
  | page (p : BitVec 3)
  /-- the function failed with this error kind and this byte -/
  | fails (k : ErrorKind) (info : Byte)
  deriving DecidableEq, Repr

/-- One item of what the host hands over. -/
inductive Input where
  /-- level B: a raw Sample (R140) -/
  | sample (lv : Levels)
  /-- level B: the `End` mark (R146) -/
  | endMark
  /-- level A: a response (R65) -/
  | response (r : Response)
  /-- `rst_i` goes to 1 (R185) -/
  | rstAssert
  /-- `rst_i` goes to 0 with these configuration inputs (R187, R190) -/
  | rstRelease (chMask : BitVec 13) (perNum perDen : Nat)
  /-- a direct call of the operation whose word is `w` in format `f` (notes/assumptions/9.md) -/
  | call (f : Format) (w : Nat) (args : Args)
  deriving DecidableEq, Repr

/-- Why the machine stops with a fault. -/
inductive Fault where
  /-- raised by SET_PIXEL: the cell does not exist, `x` is above 263 (R41, R43); safe: the machine stops -/
  | cellOutsideGrid
  /-- raised by COL: a byte index of 132 or more, a frame has no such column (R47); safe: the machine stops -/
  | columnOutsideFrame
  deriving DecidableEq, Repr

/-- Why an operation or an input is refused. All are safe: the machine stops. -/
inductive Refusal where
  /-- raised by exec for an operation that has no meaning yet -/
  | notModelled (mnemonic : String)
  /-- raised by a TK or RST row that the present state and response do not select (R69) -/
  | notSelected (mnemonic : String)
  /-- raised by RST.OK: a non-zero CH_MASK without a channel CORE reads (R150, U3) -/
  | partialChannelMask
  /-- raised by RST.OK: PER_NUM or PER_DEN is 0 (R7) -/
  | badPeriod
  /-- raised for sample indices that do not increase (R90, R138, U6) -/
  | indicesNotIncreasing
  /-- raised by RSP.MATCH: the Sample cannot satisfy the reported alternative (R138, U7) -/
  | responseNotOfRequest
  /-- raised by RSP.MATCH and RSP.EOS: the wait has been answered already (R135) -/
  | responsePending
  /-- raised by RSP.MATCH and RSP.EOS in reset: there is no wait to answer (R185) -/
  | noWaitOutstanding
  /-- raised by REQ rows: the request is not `req(state, track)` (R25, R64) -/
  | requestNotOfState
  /-- raised by MATCH_PATTERN: a reserved predicate code 5 to 7 (R62, U4) -/
  | reservedPatternCode
  /-- raised by ERROR: an unused code 5 to 7 (R76, U4); the decoder gives none -/
  | errorCodeUnused
  /-- raised by the classifiers: the operand has denominator 0 and is no time (R91, R92) -/
  | notATime
  /-- raised by fetch: an item for ports the instance does not have (R152) -/
  | portAbsent
  /-- raised by fetch: a reset release while reset is not asserted, that is a change of configuration (R190, U9) -/
  | configChangedWhileRunning
  /-- raised by fetch: the word of a direct call is no operation of its format (R74, U4) -/
  | undecodable
  deriving DecidableEq, Repr

/-- The state. The first group is R13's tuple with the PixelGrid, then the configuration (R24), the front-end (R27), the
ports (R152), and the model's own fields. -/
structure State where
  /-- `state` (R14) -/
  state : Fsm
  /-- `track` (R15) -/
  track : Track
  /-- `cand_idx` (R16) -/
  candIdx : Nat
  /-- `ref_idx` (R17) -/
  refIdx : Nat
  /-- `cmd`, whose length is `clk_cnt` (R18, R19) -/
  cmd : List Byte
  /-- `pay`, whose length is `pay_len` (R20, R21) -/
  pay : List Byte
  /-- `STATUS` (R23) -/
  status : BitVec 3
  /-- the PixelGrid (R28, R41) -/
  grid : Memory
  /-- `CH_MASK` (R24) -/
  chMask : BitVec 13
  /-- `PER_NUM` (R24) -/
  perNum : Nat
  /-- `PER_DEN` (R24) -/
  perDen : Nat
  /-- `prev` (R27) -/
  prev : Levels
  /-- `prev_valid` (R27) -/
  prevValid : Bool
  /-- `next_idx` (R27) -/
  nextIdx : Nat
  /-- `eos_seen` (R27) -/
  eosSeen : Bool
  /-- `rst_i` (R185) -/
  rst : Bool
  /-- `req_sel` (R64) -/
  reqSel : BitVec 2
  /-- `rsp_alt` (R65) -/
  rspAlt : BitVec 1
  /-- `rsp_idx` (R65) -/
  rspIdx : Nat
  /-- `rsp_lv` (R65) -/
  rspLv : Levels
  /-- the response that has answered the outstanding wait, if one has (R100) -/
  rsp : Option Response
  /-- every output event so far, oldest first (R54) -/
  events : List Event
  /-- which ports the instance has (R152) -/
  portLevel : PortLevel
  /-- the least index the next delivered Sample may have (R138); the model's own -/
  minIdx : Nat
  /-- what the host has still to hand over, oldest first; the model's own -/
  inputs : List Input
  /-- the operands of a direct call; the model's own -/
  args : Args
  /-- what the last directly called function returned; the model's own -/
  ret : Ret
  /-- how many free values have been used; the model's own -/
  freeCount : Nat
  deriving DecidableEq, Repr

/-- The operands a direct call finds before any has been given (DESIGN CHOICE, notes/assumptions/8.md). -/
def Args.init : Args :=
  { a := 0, b := 0, q := ⟨0, 1⟩, lv := 0, pat := 0, cmd := ⟨176, 0, 0⟩, pay := Vector.replicate 132 0, sel := false,
    colIdx := 0 }

/-- The machine right after reset: released with a configuration that passes the check, waiting for a start (R32, R187).
The configuration, the grid, the dead registers and the model's own fields have the values of notes/assumptions/3.md,
4.md, 5.md, 7.md, 8.md, 13.md and 15.md. -/
def State.reset : State :=
  { state := .findStart, track := .cs1, candIdx := 0, refIdx := 0, cmd := [], pay := [], status := 0, grid := [],
    chMask := 0x1FFF, perNum := 1000, perDen := 10000,
    prev := 0, prevValid := false, nextIdx := 0, eosSeen := false,
    rst := false, reqSel := 1, rspAlt := 0, rspIdx := 0, rspLv := 0, rsp := none, events := [],
    portLevel := .levelB, minIdx := 0, inputs := [], args := Args.init, ret := .none, freeCount := 0 }

end Sys2Proof.Machine
end

