-- ==== Sys2Proof/Machine/Operands.lean ====
section
/-! DEFINITION. Every computed operand of CORE: the byte on the data lines, the DeviceSelector, the page and the offsets,
time differences and the two classifiers, patterns and matching (R62, R63, R73, R90 to R93, R115, R121 to R123, R136,
R142, R143, R147). -/

namespace Sys2Proof.Machine

/-! ### The Sample (R60) -/

/-- `s.cs1` (R60). -/
def lvCs1 (lv : Levels) : Bool := lv.getLsbD 0
/-- `s.cs2` (R60). -/
def lvCs2 (lv : Levels) : Bool := lv.getLsbD 1
/-- `s.clk` (R60). -/
def lvClk (lv : Levels) : Bool := lv.getLsbD 2
/-- `s.rw` (R60), which no rule reads (R156). -/
def lvRw (lv : Levels) : Bool := lv.getLsbD 3
/-- `s.e` (R60), which no rule reads (R156). -/
def lvE (lv : Levels) : Bool := lv.getLsbD 4
/-- `s.d[k]` (R60). -/
def lvD (lv : Levels) (k : Nat) : Bool := lv.getLsbD (5 + k)

/-- The byte of the eight data lines in a given bit order (R8, R147). -/
def packWith (o : PackOrder) (lv : Levels) : Byte :=
  match o with
  | .d0Lsb => lv.extractLsb' 5 8
  | .d0Msb => (lv.extractLsb' 5 8).reverse

/-- `pack(s)` (R147). -/
def pack (lv : Levels) : Byte := packWith packOrder lv

/-- Whether a chip-select level is the asserted one (R8). -/
def asserted (level : Bool) : Bool := level == csActiveLevel

/-- `SEL`: cs2 asserted and cs1 not asserted (R115). -/
def selector (lv : Levels) : Bool := asserted (lvCs2 lv) && !(asserted (lvCs1 lv))

/-! ### Page, offsets, rows (R45 to R50) -/

/-- `PAGE_DECODE`: the page of a page code, none outside 176 to 183 (R45, R121). -/
def pageOf (c : Byte) : Option (BitVec 3) :=
  if pageBase ≤ c.toNat ∧ c.toNat < pageBase + nPages then some (BitVec.ofNat 3 (c.toNat - pageBase)) else none

/-- The device a DeviceSelector means (R46, R67). -/
def deviceOf (sel : Bool) : Device :=
  if sel then selTrue else (match selTrue with | .secondary => .primary | .primary => .secondary)

/-- The column offset of a device (R46). -/
def columnOffset (d : Device) : Nat :=
  match d with
  | .primary => 0
  | .secondary => colOffSecondary

/-- The row offset of a page (R45). -/
def rowOffset (page : BitVec 3) : Nat := bandH * page.toNat

/-- The bit of a payload byte that goes to row r of the band, in a given order (R8, R50). -/
def rowBitWith (o : RowOrder) (v : Byte) (r : Nat) : Bool :=
  match o with
  | .bit7Top => v.getLsbD (7 - r)
  | .bit0Top => v.getLsbD r

/-- The bit of a payload byte that goes to row r of the band: bit 7 - r (R50, R123). -/
def rowBit (v : Byte) (r : Nat) : Bool := rowBitWith rowOrder v r

/-! ### Time (R90 to R93) -/

/-- `delta_ms(a, b)`, for `a ≤ b` (R90). -/
def deltaMs (perNum perDen a b : Nat) : Time := ⟨(b - a) * perNum, perDen⟩

/-- `q < t`, by multiplying out the positive denominators (R93). -/
def timeLt (q t : Time) : Bool := decide (q.num * t.den < t.num * q.den)

/-- `q ≤ t`, by multiplying out the positive denominators (R93). -/
def timeLe (q t : Time) : Bool := decide (q.num * t.den ≤ t.num * q.den)

/-- `classify_start(q)`: strict (R91). -/
def classifyStart (q : Time) : Bool := timeLt q tStartMax

/-- `classify_clock_period(q)`: inclusive at both ends (R92). -/
def classifyClockPeriod (q : Time) : Bool := timeLe tClkMin q && timeLe q tClkMax

/-- The ceiling of `n / d`. -/
def ceilDiv (n d : Nat) : Nat := (n + d - 1) / d

/-- `START_LIM` (R93). -/
def startLim (perNum perDen : Nat) : Nat := ceilDiv (tStartMax.num * perDen) (tStartMax.den * perNum)

/-- `CLK_MIN_T` (R93). -/
def clkMinT (perNum perDen : Nat) : Nat := ceilDiv (tClkMin.num * perDen) (tClkMin.den * perNum)

/-- `CLK_MAX_T` (R93). -/
def clkMaxT (perNum perDen : Nat) : Nat := (tClkMax.num * perDen) / (tClkMax.den * perNum)

/-! ### Patterns (R62, R63, R136, R142, R143) -/

/-- The predicate code of channel k (R62). -/
def patCode (p : Pattern) (k : Nat) : Nat := (p.extractLsb' (3 * k) 3).toNat

/-- No channel has a reserved code (R62). -/
def patLegal (p : Pattern) : Bool := (List.range nChannels).all (fun k => decide (patCode p k ≤ 4))

/-- Whether a predicate holds, given the level before (meaningful when `prevValid`) and the level now (R62, R142). -/
def predicateHolds (code : Nat) (prevValid before now : Bool) : Bool :=
  match code with
  | 0 => true
  | 1 => !now
  | 2 => now
  | 3 => prevValid && !before && now
  | 4 => prevValid && before && !now
  | _ => false

/-- `MATCH_PATTERN`: every channel's predicate holds on the one Sample (R136). -/
def matchPattern (p : Pattern) (prevValid : Bool) (prev lv : Levels) : Bool :=
  (List.range nChannels).all (fun k => predicateHolds (patCode p k) prevValid (prev.getLsbD k) (lv.getLsbD k))

/-- The pattern set a `req_sel` code stands for (R63, R64). -/
def patternSet (req : BitVec 2) : List Pattern :=
  if req = 0 then [] else if req = 1 then [0x23, 0x1C] else if req = 2 then [0xC1] else [0xC8]

/-- `first_match`: the lowest-numbered alternative that the Sample satisfies (R143). -/
def firstMatch (ps : List Pattern) (prevValid : Bool) (prev lv : Levels) : Option Nat :=
  ps.findIdx? (fun p => matchPattern p prevValid prev lv)

/-- Whether a level is one that a predicate leaves after it: an edge ends at the level it goes to (R62). -/
def levelAfter (code : Nat) (now : Bool) : Bool :=
  match code with
  | 1 => !now
  | 2 => now
  | 3 => now
  | 4 => !now
  | _ => true

/-- Whether a reported alternative exists in the outstanding pattern set and the Sample's levels are ones it can have,
as far as the levels of the one Sample can show it (R138; notes/assumptions/14.md). -/
def responseFits (req : BitVec 2) (alt : BitVec 1) (lv : Levels) : Bool :=
  match (patternSet req)[alt.toNat]? with
  | some p => (List.range nChannels).all (fun k => levelAfter (patCode p k) (lv.getLsbD k))
  | none => false

end Sys2Proof.Machine
end

