-- ==== Sys2Proof/Machine/Flags.lean ====
section
/-! DEFINITION. The flags: the three bits of STATUS (R23, R75), the numeric codes of the sequencing state, and the bits
of the transition key (R66, R67, R68). -/

namespace Sys2Proof.Machine

/-- `CFG_ERR`, bit 0 (R23). -/
def State.cfgErr (s : State) : Bool := s.status.getLsbD 0
/-- `STREAM_ENDED`, bit 1 (R23). -/
def State.streamEnded (s : State) : Bool := s.status.getLsbD 1
/-- `BAD_PAGE_SEEN`, bit 2 (R23). -/
def State.badPageSeen (s : State) : Bool := s.status.getLsbD 2

/-- STATUS with `CFG_ERR` set (R23: sticky). -/
def setCfgErr (st : BitVec 3) : BitVec 3 := st ||| 1
/-- STATUS with `STREAM_ENDED` set (R23: sticky). -/
def setStreamEnded (st : BitVec 3) : BitVec 3 := st ||| 2
/-- STATUS with `BAD_PAGE_SEEN` set (R23: sticky). -/
def setBadPageSeen (st : BitVec 3) : BitVec 3 := st ||| 4

/-- `state[2:0]` (R66). -/
def Fsm.code : Fsm → BitVec 3
  | .findStart => 0
  | .verifyStart => 1
  | .findNextStartClk => 2
  | .readData => 3
  | .halted => 4

/-- The code of `track` (R67). -/
def trackCode : Track → BitVec 1
  | .cs1 => 0
  | .cs2 => 1

/-- The code of an error kind (R76). -/
def ErrorKind.code : ErrorKind → BitVec 3
  | .channelConfiguration => 1
  | .timingRejection => 2
  | .unknownPageCode => 3
  | .streamEnded => 4

/-- The first byte of the Command, `cmd[0]` (R18). -/
def State.cmd0 (s : State) : Byte := s.cmd.headD 0

/-- `classify_start(delta_ms(cand_idx, idx))` (R104). -/
def State.startInTime (s : State) (idx : Nat) : Bool := classifyStart (deltaMs s.perNum s.perDen s.candIdx idx)

/-- `classify_clock_period(delta_ms(ref_idx, idx))` (R106). -/
def State.clockInTime (s : State) (idx : Nat) : Bool :=
  classifyClockPeriod (deltaMs s.perNum s.perDen s.refIdx idx)

/-- Key bit `eos` (R68). -/
def keyEos (r : Response) : Bool :=
  match r with
  | .matched _ _ _ => false
  | .endOfStream => true

/-- Key bit `alt` (R68). -/
def keyAlt (r : Response) : BitVec 1 :=
  match r with
  | .matched alt _ _ => alt
  | .endOfStream => 0

/-- Key bit `cls` (R68). -/
def keyCls (s : State) (r : Response) : Bool :=
  match s.state, r with
  | .verifyStart, .matched _ idx _ => s.startInTime idx
  | .findNextStartClk, .matched _ idx _ => s.clockInTime idx
  | _, _ => false

/-- Key bit `last` (R68). -/
def keyLast (s : State) (r : Response) : Bool :=
  match s.state, r with
  | .findNextStartClk, .matched _ _ _ => decide (s.cmd.length = cmdLen - 1)
  | .readData, .matched _ _ _ => decide (s.pay.length = frameLen - 1)
  | _, _ => false

/-- Key bit `pageok` (R68). -/
def keyPageok (s : State) (r : Response) : Bool :=
  match s.state with
  | .readData => keyLast s r && (pageOf s.cmd0).isSome
  | _ => false

/-- The transition key (R68). -/
def transitionKey (s : State) (r : Response) : Key :=
  s.state.code ++ BitVec.ofBool (keyEos r) ++ keyAlt r ++ BitVec.ofBool (keyCls s r) ++
    BitVec.ofBool (keyLast s r) ++ BitVec.ofBool (keyPageok s r)

/-- The index a timed state compares the matching Sample's index with: `cand_idx` or `ref_idx` (R104, R106). -/
def State.timeRef (s : State) : Option Nat :=
  match s.state with
  | .verifyStart => some s.candIdx
  | .findNextStartClk => some s.refIdx
  | _ => none

/-- Whether a response lies in the domain of `delta_ms` where the state uses it: the matching Sample comes later than the
one it is measured from (R90, R104, U6). -/
def inDomain (s : State) (r : Response) : Bool :=
  match s.timeRef, r with
  | some t, .matched _ idx _ => decide (t < idx)
  | _, _ => true

end Sys2Proof.Machine
end

