-- ==== Sys2Proof/Machine/Grid.lean ====
section
/-! DEFINITION. The PixelGrid as one canonical list, its read and its only write, and what an output event does to it
(R41 to R44, R56). -/

namespace Sys2Proof.Machine

/-- What an unlisted cell reads as: off (DESIGN CHOICE for GRID0, notes/assumptions/4.md). -/
def Memory.unlisted : Byte := 0

/-- The byte at an address. -/
def Memory.get (g : Memory) (a : Nat) : Byte :=
  match g with
  | [] => Memory.unlisted
  | c :: rest => if c.1 = a then c.2 else Memory.get rest a

/-- The list with the byte at an address set, in canonical form again: what an unlisted cell reads as is not listed. -/
def Memory.put (g : Memory) (a : Nat) (v : Byte) : Memory :=
  match g with
  | [] => if v = Memory.unlisted then [] else [(a, v)]
  | c :: rest =>
    if a < c.1 then (if v = Memory.unlisted then c :: rest else (a, v) :: c :: rest)
    else if a = c.1 then (if v = Memory.unlisted then rest else (a, v) :: rest)
    else c :: Memory.put rest a v

/-- The address of cell (x, y): the two fields of the event word put together (R77). -/
def cellAddr (x y : Nat) : Nat := gridH * x + y

/-- How many addresses the grid has. -/
def gridCells : Nat := gridW * gridH

/-- The byte that holds a cell's bit (R42). -/
def cellByte (on : Bool) : Byte := if on then 1 else 0

/-- The canonical form: addresses strictly rising, every listed cell inside the grid and on. -/
def Memory.wf (g : Memory) : Bool :=
  decide (g.Pairwise (fun c d => c.1 < d.1)) && g.all (fun c => decide (c.1 < gridCells) && decide (c.2 = 1))

/-- The bit of cell (x, y). CORE itself has no read (R44); this is for saying what the display shows. -/
def pixel (g : Memory) (x y : Nat) : Bool := decide (Memory.get g (cellAddr x y) = 1)

/-- `PixWrite(x, y, v)` (R43). -/
def pixWrite (g : Memory) (x y : Nat) (on : Bool) : Memory := Memory.put g (cellAddr x y) (cellByte on)

/-- What an event does to the grid: only `SET_PIXEL` writes a cell (R43, R56). -/
def applyEvent (g : Memory) (e : Event) : Memory :=
  match e with
  | .setPixel x y on => pixWrite g x.toNat y.toNat on
  | .present => g
  | .record _ _ _ => g
  | .error _ _ => g

end Sys2Proof.Machine
end

