-- ==== Sys2Proof/Machine/Ops.lean ====
section
/-! DEFINITION. The shared operations over the state: emitting events, taking an error and coming back from one, the
render, the request, reset. -/

namespace Sys2Proof.Machine

/-- What a meaning answers. -/
abbrev Res := Host.Outcome State Fault Refusal

/-! ### Output events -/

/-- Events leave CORE in order, and every `SET_PIXEL` among them writes its cell (R43, R54, R56). -/
def emitAll (evs : List Event) (s : State) : State :=
  { s with grid := evs.foldl applyEvent s.grid, events := s.events ++ evs }

/-! ### Errors (60_exceptions.md) -/

/-- `enter_find_start`, the way back into the loop after every recoverable error and every frame (R114, R170). -/
def enterFindStart (s : State) : State := { s with cmd := [], pay := [], state := .findStart }

/-- The terminal stop: the buffers are dropped and only reset leaves `HALTED` (R161, R164). -/
def enterHalted (s : State) : State := { s with cmd := [], pay := [], state := .halted }

/-- What `UnknownPageCode` records and reports: `BAD_PAGE_SEEN` and one `ERROR` event with code 3 (R163, R168). -/
def reportUnknownPage (info : Byte) (s : State) : State :=
  emitAll [.error (ErrorKind.code .unknownPageCode) info] { s with status := setBadPageSeen s.status }

/-- Taking an error, one case for each kind: what it records and where CORE goes on (R160 to R165). Nothing is saved for
a handler (R167). -/
def raiseError (k : ErrorKind) (info : Byte) (s : State) : State :=
  match k with
  | .channelConfiguration => enterHalted { s with status := setCfgErr s.status }
  | .timingRejection => enterFindStart s
  | .unknownPageCode => enterFindStart (reportUnknownPage info s)
  | .streamEnded => enterHalted { s with status := setStreamEnded s.status }

/-! ### The renderer (42_frame_renderer.md) -/

/-- The eight `SET_PIXEL` events of one payload byte, rows ascending (R52, R123, R124). -/
def columnEvents (page : BitVec 3) (off i : Nat) (v : Byte) : List Event :=
  (List.range bandH).map fun r =>
    .setPixel (BitVec.ofNat 9 (i + off)) (BitVec.ofNat 6 (rowOffset page + r)) (rowBit v r)

/-- The `SET_PIXEL` events of a payload from byte index `i` on, byte index ascending (R52). -/
def payloadEvents (page : BitVec 3) (off i : Nat) (pay : List Byte) : List Event :=
  match pay with
  | [] => []
  | v :: rest => columnEvents page off i v ++ payloadEvents page off (i + 1) rest

/-- The record of a rendered frame, when this hardware emits one (R129). -/
def recordEvents (emit : Bool) (page : BitVec 3) (d : Device) (pay : List Byte) : List Event :=
  if emit then [.record page d pay] else []

/-- All events of a successful render (R120, R130). -/
def renderEvents (page : BitVec 3) (sel : Bool) (pay : List Byte) : List Event :=
  payloadEvents page (columnOffset (deviceOf sel)) 0 pay ++ [.present] ++
    recordEvents emitRecord page (deviceOf sel) pay

/-- `render(cmd, pay, sel)`, `cmd` given by its first byte, the only one it reads (R120); a page code outside the set
stops it before anything is drawn (R126). -/
def renderFrame (c0 : Byte) (pay : List Byte) (sel : Bool) (s : State) : State :=
  match pageOf c0 with
  | some p => emitAll (renderEvents p sel pay) s
  | none => reportUnknownPage c0 s

/-! ### Requests and responses -/

/-- `req(state, track)` as `req_sel` (R25, R64). -/
def reqOf (st : Fsm) (t : Track) : BitVec 2 :=
  match st with
  | .findStart => 1
  | .halted => 0
  | .verifyStart => (match t with | .cs1 => 2 | .cs2 => 3)
  | .findNextStartClk => (match t with | .cs1 => 2 | .cs2 => 3)
  | .readData => (match t with | .cs1 => 2 | .cs2 => 3)

/-- The request outstanding now: none in reset, else `req(state, track)` (R25, R64, R185). -/
def State.request (s : State) : BitVec 2 := if s.rst then 0 else reqOf s.state s.track

/-- CORE issues the request `code`, which must be the one of its state (R25, R64). -/
def issueRequest (code : BitVec 2) (s : State) : Res :=
  if s.request = code then .next { s with reqSel := code } else .refused .requestNotOfState

/-- The operation that issues the wait of the present state (R100). -/
def waitInstr (s : State) : Instr :=
  if s.request = 0 then .reqNone else if s.request = 1 then .reqStart
  else if s.request = 2 then .reqClk1 else .reqClk2

/-- The response has been acted on: CORE is about to wait again (R100). -/
def consume (s : State) : State := { s with rsp := none }

/-! ### Reset (70_reset_and_hazards.md) -/

/-- `rst_i` goes to 1: no wait is issued and no response is kept (R185). -/
def assertReset (s : State) : State := { s with rst := true, reqSel := 0, rsp := none }

/-- The reset values of R32 with `state = FIND_START`; the dead registers get free values (notes/assumptions/6.md), the
PixelGrid is untouched (R189). -/
def resetRegisters (s : State) : State :=
  { s with
    state := .findStart, track := Config.freeTrack s.freeCount,
    candIdx := Config.freeIndex (s.freeCount + 1), refIdx := Config.freeIndex (s.freeCount + 2),
    cmd := [], pay := [], status := 0,
    prev := Config.freeLevels (s.freeCount + 3), prevValid := false, nextIdx := 0, eosSeen := false,
    rst := false, rsp := none, minIdx := 0, freeCount := s.freeCount + 4 }

/-- `cfg_ok` (R150). -/
def cfgOk (chMask : BitVec 13) : Bool := decide (chMask ≠ 0)

/-- Every channel CORE reads has a physical channel (R150). -/
def channelsComplete (chMask : BitVec 13) : Bool := decide (chMask &&& neededChannels = neededChannels)

end Sys2Proof.Machine
end

