-- ==== Sys2Proof/Machine/Classifier.lean ====
section
/-! DEFINITION. The Timing Classifier's rows called directly (R90, R91, R92). They are pure: only the returned value
changes (R94). -/

namespace Sys2Proof.Machine

/-- TIMEDELTA (R90): `delta_ms(a, b)`; `a > b` is outside its domain (U6). With PER_DEN 0, which R7 excludes but
RST.CFGERR latches unchecked, it returns the pair with denominator 0, which is no time (DESIGN CHOICE, unsafe,
notes/assumptions/41.md). -/
def execTimedelta (s : State) : Res :=
  if s.args.a ≤ s.args.b then .next { s with ret := .time (deltaMs s.perNum s.perDen s.args.a s.args.b) }
  else .refused .indicesNotIncreasing

/-- CLASSIFY_START (R91). -/
def execClassifyStart (s : State) : Res :=
  if s.args.q.den = 0 then .refused .notATime else .next { s with ret := .verdict (classifyStart s.args.q) }

/-- CLASSIFY_CLOCK_PERIOD (R92). -/
def execClassifyClockPeriod (s : State) : Res :=
  if s.args.q.den = 0 then .refused .notATime else .next { s with ret := .verdict (classifyClockPeriod s.args.q) }

end Sys2Proof.Machine
end

