-- ==== Sys2Proof/Machine/Framing.lean ====
section
/-! DEFINITION. The Framing State Machine: one meaning per TK row (R102 to R113), and `SEL` (R115). The operand of a
transition is the response held in `rsp`; a row that state and response do not select is refused (R69). -/

namespace Sys2Proof.Machine

/-- FS.A (R102): the hand-over to device 2. -/
def execFsA (s : State) : Res :=
  match s.state, s.rsp with
  | .findStart, some (.matched alt idx _) =>
    if alt = 0 then .next (consume { s with track := .cs2, candIdx := idx, state := .verifyStart })
    else .refused (.notSelected "FS.A")
  | _, _ => .refused (.notSelected "FS.A")

/-- FS.B (R103): the hand-over to device 1. -/
def execFsB (s : State) : Res :=
  match s.state, s.rsp with
  | .findStart, some (.matched alt idx _) =>
    if alt = 1 then .next (consume { s with track := .cs1, candIdx := idx, state := .verifyStart })
    else .refused (.notSelected "FS.B")
  | _, _ => .refused (.notSelected "FS.B")

/-- VS.ACC (R104): the first clock edge in time, its byte the first of the Command. -/
def execVsAcc (s : State) : Res :=
  match s.state, s.rsp with
  | .verifyStart, some (.matched _ idx lv) =>
    if idx ≤ s.candIdx then .refused .indicesNotIncreasing
    else if s.startInTime idx then
      .next (consume { s with cmd := [pack lv], refIdx := idx, state := .findNextStartClk })
    else .refused (.notSelected "VS.ACC")
  | _, _ => .refused (.notSelected "VS.ACC")

/-- VS.REJ (R105): the first clock edge too late, a TimingRejection (R162). -/
def execVsRej (s : State) : Res :=
  match s.state, s.rsp with
  | .verifyStart, some (.matched _ idx _) =>
    if idx ≤ s.candIdx then .refused .indicesNotIncreasing
    else if s.startInTime idx then .refused (.notSelected "VS.REJ")
    else .next (consume (raiseError .timingRejection 0 s))
  | _, _ => .refused (.notSelected "VS.REJ")

/-- NC.ACC (R106): a further command byte, the Command not yet complete. -/
def execNcAcc (s : State) : Res :=
  match s.state, s.rsp with
  | .findNextStartClk, some (.matched _ idx lv) =>
    if idx ≤ s.refIdx then .refused .indicesNotIncreasing
    else if s.clockInTime idx && decide (s.cmd.length ≠ cmdLen - 1) then
      .next (consume { s with cmd := s.cmd ++ [pack lv], refIdx := idx, state := .findNextStartClk })
    else .refused (.notSelected "NC.ACC")
  | _, _ => .refused (.notSelected "NC.ACC")

/-- NC.FIN (R107): the third command byte; the payload buffer is reset. `ref_idx` is dead from here on and is left as it
is (notes/assumptions/34.md). -/
def execNcFin (s : State) : Res :=
  match s.state, s.rsp with
  | .findNextStartClk, some (.matched _ idx lv) =>
    if idx ≤ s.refIdx then .refused .indicesNotIncreasing
    else if s.clockInTime idx && decide (s.cmd.length = cmdLen - 1) then
      .next (consume { s with cmd := s.cmd ++ [pack lv], pay := [], state := .readData })
    else .refused (.notSelected "NC.FIN")
  | _, _ => .refused (.notSelected "NC.FIN")

/-- NC.REJ (R108): a clock edge outside the period window, a TimingRejection (R162). -/
def execNcRej (s : State) : Res :=
  match s.state, s.rsp with
  | .findNextStartClk, some (.matched _ idx _) =>
    if idx ≤ s.refIdx then .refused .indicesNotIncreasing
    else if s.clockInTime idx then .refused (.notSelected "NC.REJ")
    else .next (consume (raiseError .timingRejection 0 s))
  | _, _ => .refused (.notSelected "NC.REJ")

/-- RD.ACC (R109): a payload byte, the frame not yet full. -/
def execRdAcc (s : State) : Res :=
  match s.state, s.rsp with
  | .readData, some (.matched _ _ lv) =>
    if s.pay.length ≠ frameLen - 1 then
      .next (consume { s with pay := s.pay ++ [pack lv], state := .readData })
    else .refused (.notSelected "RD.ACC")
  | _, _ => .refused (.notSelected "RD.ACC")

/-- RD.FIN (R110): the 132nd payload byte with a legal page code; the frame is rendered. -/
def execRdFin (s : State) : Res :=
  match s.state, s.rsp with
  | .readData, some (.matched _ _ lv) =>
    if s.pay.length = frameLen - 1 && (pageOf s.cmd0).isSome then
      .next (consume (enterFindStart (renderFrame s.cmd0 (s.pay ++ [pack lv]) (selector lv) s)))
    else .refused (.notSelected "RD.FIN")
  | _, _ => .refused (.notSelected "RD.FIN")

/-- RD.BAD (R111): the 132nd payload byte with an illegal page code, an UnknownPageCode (R163). -/
def execRdBad (s : State) : Res :=
  match s.state, s.rsp with
  | .readData, some (.matched _ _ _) =>
    if s.pay.length = frameLen - 1 && (pageOf s.cmd0).isNone then
      .next (consume (raiseError .unknownPageCode s.cmd0 s))
    else .refused (.notSelected "RD.BAD")
  | _, _ => .refused (.notSelected "RD.BAD")

/-- EOS (R112): the sample source is exhausted, in any of the four decoding states, a StreamEnded (R164). -/
def execEos (s : State) : Res :=
  match s.state, s.rsp with
  | .halted, _ => .refused (.notSelected "EOS")
  | _, some .endOfStream => .next (consume (raiseError .streamEnded 0 s))
  | _, _ => .refused (.notSelected "EOS")

/-- HALT.NOP (R113): in HALTED a response is ignored; it is dropped and nothing else changes. Called directly with no
response held it completes too and changes nothing (DESIGN CHOICE, unsafe, notes/assumptions/44.md). -/
def execHaltNop (s : State) : Res :=
  match s.state with
  | .halted => .next (consume s)
  | _ => .refused (.notSelected "HALT.NOP")

/-- SEL (R115) called directly: the DeviceSelector of the Sample `args.lv`. -/
def execSel (s : State) : Res := .next { s with ret := .verdict (selector s.args.lv) }

end Sys2Proof.Machine
end

