-- ==== Sys2Proof/Machine/Interface.lean ====
section
/-! DEFINITION. The interface primitives: issuing a request (REQ), taking a response (RSP), the bit packer and the
pattern test (43_interfaces.md). -/

namespace Sys2Proof.Machine

/-- REQ.NONE (R64): no wait is outstanding, in HALTED or in reset. -/
def execReqNone (s : State) : Res := issueRequest 0 s

/-- REQ.START (R64): `wait(PS_START)`, issued in FIND_START. -/
def execReqStart (s : State) : Res := issueRequest 1 s

/-- REQ.CLK1 (R64): `wait(PS_CLK1)`, issued in the three later states while cs1 is tracked. -/
def execReqClk1 (s : State) : Res := issueRequest 2 s

/-- REQ.CLK2 (R64): `wait(PS_CLK2)`, issued in the three later states while cs2 is tracked. -/
def execReqClk2 (s : State) : Res := issueRequest 3 s

/-- RSP.MATCH (R65, R135): the outstanding wait is answered with the Sample on the response pins. In HALTED a response is
taken and will be ignored (R113). A Sample that cannot answer the request, or whose index is not later than every one
delivered before, is refused (R138, U6, U7). -/
def execRspMatch (s : State) : Res :=
  if s.rst then .refused .noWaitOutstanding
  else if s.rsp.isSome then .refused .responsePending
  else if s.state = .halted then .next { s with rsp := some (.matched s.rspAlt s.rspIdx s.rspLv) }
  else if responseFits s.request s.rspAlt s.rspLv then
    if s.rspIdx < s.minIdx then .refused .indicesNotIncreasing
    else .next { s with rsp := some (.matched s.rspAlt s.rspIdx s.rspLv), minIdx := s.rspIdx + 1 }
  else .refused .responseNotOfRequest

/-- RSP.EOS (R65, R139): the outstanding wait is answered with end of stream; the other response pins are ignored. -/
def execRspEos (s : State) : Res :=
  if s.rst then .refused .noWaitOutstanding
  else if s.rsp.isSome then .refused .responsePending
  else .next { s with rsp := some .endOfStream }

/-- PACK (R147) called directly: the byte on the data lines of the Sample `args.lv`. -/
def execPack (s : State) : Res := .next { s with ret := .byte (pack s.args.lv) }

/-- MATCH_PATTERN (R136, R142) called directly: whether the Sample `args.lv`, coming after the front-end's `prev`,
satisfies the pattern `args.pat`. A level-A instance has no front-end (R152); called there, it takes the same `prev` and
`prev_valid`, which is 0 from release on, so that no edge predicate holds (DESIGN CHOICE, unsafe,
notes/assumptions/43.md). -/
def execMatchPattern (s : State) : Res :=
  if patLegal s.args.pat then
    .next { s with ret := .verdict (matchPattern s.args.pat s.prevValid s.prev s.args.lv) }
  else .refused .reservedPatternCode

end Sys2Proof.Machine
end

