-- ==== Sys2Proof/Machine/Renderer.lean ====
section
/-! DEFINITION. The Frame Renderer's rows: the Command and one payload byte as the renderer takes them, page decoding, the
whole render, and the output events (R120, R121, R123, R125, R128, R129, R168). Their operands that have no place in the
word are those of the direct call, `args` (notes/assumptions/8.md). -/

namespace Sys2Proof.Machine

/-- SETPAGE (R71, R121): the Command `{10110 p, c, a}` becomes the renderer's Command and selects page `p`; `c` and `a`
are held and never read; the next payload byte is the first (notes/assumptions/21.md). -/
def execSetpage (p : BitVec 3) (c a : Byte) (s : State) : Res :=
  .next { s with
    args := { s.args with cmd := ⟨0b10110#5 ++ p, c, a⟩, colIdx := 0 },
    ret := .page p }

/-- COL (R72, R123, R124): the payload byte with index `args.colIdx` is drawn as one column of eight pixels in the band of
the renderer's Command; an unknown page stops it before it draws (R126), an index past the frame is a fault
(notes/assumptions/22.md). -/
def execCol (v : Byte) (s : State) : Res :=
  match pageOf s.args.cmd.b0 with
  | none => .next (reportUnknownPage s.args.cmd.b0 s)
  | some p =>
    if s.args.colIdx < frameLen then
      .next (emitAll (columnEvents p (columnOffset (deviceOf s.args.sel)) s.args.colIdx v)
        { s with args := { s.args with colIdx := s.args.colIdx + 1 } })
    else .fault .columnOutsideFrame

/-- PAGE_DECODE (R121) called directly on the renderer's Command: the page, or the failure with the offending byte
(notes/assumptions/23.md). -/
def execPageDecode (s : State) : Res :=
  match pageOf s.args.cmd.b0 with
  | some p => .next { s with ret := .page p }
  | none => .next { s with ret := .fails .unknownPageCode s.args.cmd.b0 }

/-- RENDER (R120) called directly with the operands of the call: the whole render, or its failure at the first step
(R126). -/
def execRender (s : State) : Res := .next (renderFrame s.args.cmd.b0 s.args.pay.toList s.args.sel s)

/-- SET_PIXEL (R43, R125): one cell is written and the event leaves CORE. -/
def execSetPixel (x : BitVec 9) (y : BitVec 6) (on : Bool) (s : State) : Res :=
  if x.toNat < gridW then .next (emitAll [.setPixel x y on] s) else .fault .cellOutsideGrid

/-- PRESENT (R128): the surface is asked to refresh. -/
def execPresent (s : State) : Res := .next (emitAll [.present] s)

/-- RECORD (R78, R129): the decoded-frame record, its bytes the payload operand of the call. -/
def execRecord (page : BitVec 3) (device : Device) (s : State) : Res :=
  .next (emitAll [.record page device s.args.pay.toList] s)

/-- ERROR (R168): the event is emitted for code 3 only; for the other codes in use nothing leaves CORE, and the unused
codes are refused (notes/assumptions/24.md). -/
def execError (code : BitVec 3) (info : Byte) (s : State) : Res :=
  if code = ErrorKind.code .unknownPageCode then .next (emitAll [.error code info] s)
  else if code.toNat ≤ 4 then .next s
  else .refused .errorCodeUnused

end Sys2Proof.Machine
end

