-- ==== Sys2Proof/Machine/Reset.lean ====
section
/-! DEFINITION. The two operations of reset release (R187, R188). They act on a CORE held in reset, with the
configuration inputs already latched. -/

namespace Sys2Proof.Machine

/-- RST.OK (R187): the configuration check passes and CORE starts in FIND_START. A non-zero CH_MASK that lacks a channel
CORE reads is refused (R150, U3), and so is a period that is not positive (R7). -/
def execRstOk (s : State) : Res :=
  if s.rst && cfgOk s.chMask then
    if channelsComplete s.chMask then
      if s.perNum = 0 ∨ s.perDen = 0 then .refused .badPeriod else .next (resetRegisters s)
    else .refused .partialChannelMask
  else .refused (.notSelected "RST.OK")

/-- RST.CFGERR (R188): no channel is configured, a ChannelConfigurationError (R161). -/
def execRstCfgerr (s : State) : Res :=
  if s.rst && !(cfgOk s.chMask) then .next (raiseError .channelConfiguration 0 (resetRegisters s))
  else .refused (.notSelected "RST.CFGERR")

end Sys2Proof.Machine
end

