-- ==== Sys2Proof/Machine/Dispatch.lean ====
section
/-! DEFINITION. The dispatch: one arm per operation. -/

namespace Sys2Proof.Machine

def exec (i : Instr) (s : State) : Host.Outcome State Fault Refusal :=
  match i with
  | .fsA => Sys2Proof.Machine.execFsA s
  | .fsB => Sys2Proof.Machine.execFsB s
  | .vsAcc => Sys2Proof.Machine.execVsAcc s
  | .vsRej => Sys2Proof.Machine.execVsRej s
  | .ncAcc => Sys2Proof.Machine.execNcAcc s
  | .ncFin => Sys2Proof.Machine.execNcFin s
  | .ncRej => Sys2Proof.Machine.execNcRej s
  | .rdAcc => Sys2Proof.Machine.execRdAcc s
  | .rdFin => Sys2Proof.Machine.execRdFin s
  | .rdBad => Sys2Proof.Machine.execRdBad s
  | .eos => Sys2Proof.Machine.execEos s
  | .haltNop => Sys2Proof.Machine.execHaltNop s
  | .rstOk => Sys2Proof.Machine.execRstOk s
  | .rstCfgerr => Sys2Proof.Machine.execRstCfgerr s
  | .setpage p c a => Sys2Proof.Machine.execSetpage p c a s
  | .col v => Sys2Proof.Machine.execCol v s
  | .reqNone => Sys2Proof.Machine.execReqNone s
  | .reqStart => Sys2Proof.Machine.execReqStart s
  | .reqClk1 => Sys2Proof.Machine.execReqClk1 s
  | .reqClk2 => Sys2Proof.Machine.execReqClk2 s
  | .rspMatch => Sys2Proof.Machine.execRspMatch s
  | .rspEos => Sys2Proof.Machine.execRspEos s
  | .setPixel x y on => Sys2Proof.Machine.execSetPixel x y on s
  | .present => Sys2Proof.Machine.execPresent s
  | .record page device => Sys2Proof.Machine.execRecord page device s
  | .error code info => Sys2Proof.Machine.execError code info s
  | .timedelta => Sys2Proof.Machine.execTimedelta s
  | .classifyStart => Sys2Proof.Machine.execClassifyStart s
  | .classifyClockPeriod => Sys2Proof.Machine.execClassifyClockPeriod s
  | .pack => Sys2Proof.Machine.execPack s
  | .sel => Sys2Proof.Machine.execSel s
  | .pageDecode => Sys2Proof.Machine.execPageDecode s
  | .render => Sys2Proof.Machine.execRender s
  | .matchPattern => Sys2Proof.Machine.execMatchPattern s

end Sys2Proof.Machine
end

