-- ==== Sys2Proof/WellFormed.lean ====
section
/-! DEFINITION. Which operations are well formed: the ranges the event formats give their fields (R76, R77). Every other
field accepts all its values (R74). -/

namespace Sys2Proof

/-- A `SET_PIXEL` addresses a cell of the grid (`x` 0 to 263, R77; `y` has 6 bits and is always in range); an `ERROR`
carries one of the codes 0 to 4 (5 to 7 unused, R76). -/
def Instr.wellFormed : Instr → Bool
  | .setPixel x _ _ => decide (x.toNat < 264)
  | .error code _ => decide (code.toNat ≤ 4)
  | .fsA => true
  | .fsB => true
  | .vsAcc => true
  | .vsRej => true
  | .ncAcc => true
  | .ncFin => true
  | .ncRej => true
  | .rdAcc => true
  | .rdFin => true
  | .rdBad => true
  | .eos => true
  | .haltNop => true
  | .rstOk => true
  | .rstCfgerr => true
  | .setpage _ _ _ => true
  | .col _ => true
  | .reqNone => true
  | .reqStart => true
  | .reqClk1 => true
  | .reqClk2 => true
  | .rspMatch => true
  | .rspEos => true
  | .present => true
  | .record _ _ => true
  | .timedelta => true
  | .classifyStart => true
  | .classifyClockPeriod => true
  | .pack => true
  | .sel => true
  | .pageDecode => true
  | .render => true
  | .matchPattern => true

end Sys2Proof
end

