-- ==== Sys2Proof/Decode.lean ====
section
/-! DEFINITION. The decoder, total on every format and every word, and the encoder, both from the encoding tables of
30_encoding.md (R64, R65, R68, R69, R71, R72, R77, R83). -/

namespace Sys2Proof

/-- Why a word is no operation of its format. -/
inductive DecodeError where
  /-- the word has more bits than the format -/
  | tooWide
  /-- a transition key with a state code 5 to 7, which no row of the map matches (R69, R74) -/
  | unusedStateCode
  /-- a Command whose first byte is not 176 to 183 (R71, R74) -/
  | illegalCommand
  /-- an event word with a 1 among the bits its format fixes at 0 (R77) -/
  | reservedBits
  /-- a `SET_PIXEL` with `x` above 263 (R77) -/
  | cellOutsideGrid
  /-- an `ERROR` with one of the unused codes 5 to 7 (R76) -/
  | unusedErrorCode
  deriving DecidableEq, Repr

/-- How many bits a word of a format has (R83). -/
def Format.width : Format → Nat
  | .tk => 8
  | .rst => 1
  | .cmd => 24
  | .col => 8
  | .req => 2
  | .rsp => 1
  | .ev => 18
  | .fn => 3

/-- A row of the operation map: it matches a key when `key AND mask = code` (R68). -/
structure TkRow where
  code : Key
  mask : Key
  instr : Instr
  deriving DecidableEq, Repr

/-- Whether a row matches a key (R68). -/
def TkRow.matchesKey (r : TkRow) (k : Key) : Bool := decide (k &&& r.mask = r.code)

/-- The operation map (R69). -/
def tkRows : List TkRow :=
  [ ⟨0x00, 0xF8, .fsA⟩,
    ⟨0x08, 0xF8, .fsB⟩,
    ⟨0x24, 0xF4, .vsAcc⟩,
    ⟨0x20, 0xF4, .vsRej⟩,
    ⟨0x44, 0xF6, .ncAcc⟩,
    ⟨0x46, 0xF6, .ncFin⟩,
    ⟨0x40, 0xF4, .ncRej⟩,
    ⟨0x60, 0xF2, .rdAcc⟩,
    ⟨0x63, 0xF3, .rdFin⟩,
    ⟨0x62, 0xF3, .rdBad⟩,
    ⟨0x10, 0x90, .eos⟩,
    ⟨0x80, 0xE0, .haltNop⟩ ]

/-- The operation a transition key selects (R69). -/
def decodeTk (k : Key) : Except DecodeError Instr :=
  match tkRows.find? (fun r => r.matchesKey k) with
  | some r => .ok r.instr
  | none => .error .unusedStateCode

/-- Format RST: the 1-bit key `cfg_ok` (R69, R187, R188). -/
def decodeRst (b : BitVec 1) : Instr := if b = 1 then .rstOk else .rstCfgerr

/-- Format CMD: `10110ppp cccccccc aaaaaaaa` (R71). -/
def decodeCmd (w : BitVec 24) : Except DecodeError Instr :=
  if w &&& 0xF80000 = 0xB00000 then
    .ok (.setpage (w.extractLsb' 16 3) (w.extractLsb' 8 8) (w.extractLsb' 0 8))
  else .error .illegalCommand

/-- Format REQ: the 2-bit `req_sel` (R64). -/
def decodeReq (b : BitVec 2) : Instr :=
  if b = 0 then .reqNone else if b = 1 then .reqStart else if b = 2 then .reqClk1 else .reqClk2

/-- Format RSP: the 1-bit `rsp_kind` (R65). -/
def decodeRsp (b : BitVec 1) : Instr := if b = 0 then .rspMatch else .rspEos

/-- Format EV: the 18-bit event word, kind in bits 17:16 (R77). -/
def decodeEv (e : BitVec 18) : Except DecodeError Instr :=
  if e.extractLsb' 16 2 = 0 then
    if (e.extractLsb' 7 9).toNat < 264 then
      .ok (.setPixel (e.extractLsb' 7 9) (e.extractLsb' 1 6) (e.getLsbD 0))
    else .error .cellOutsideGrid
  else if e.extractLsb' 16 2 = 1 then
    if e.extractLsb' 0 16 = 0 then .ok .present else .error .reservedBits
  else if e.extractLsb' 16 2 = 2 then
    if e.extractLsb' 0 12 = 0 then
      .ok (.record (e.extractLsb' 13 3) (if e.getLsbD 12 then .secondary else .primary))
    else .error .reservedBits
  else if e.extractLsb' 8 5 = 0 then
    if (e.extractLsb' 13 3).toNat ≤ 4 then .ok (.error (e.extractLsb' 13 3) (e.extractLsb' 0 8))
    else .error .unusedErrorCode
  else .error .reservedBits

/-- Format FN: the 3-bit function number (R83). -/
def decodeFn (b : BitVec 3) : Instr :=
  if b = 0 then .timedelta else if b = 1 then .classifyStart else if b = 2 then .classifyClockPeriod
  else if b = 3 then .pack else if b = 4 then .sel else if b = 5 then .pageDecode
  else if b = 6 then .render else .matchPattern

/-- The decoder: the operation that word `w` is in format `f`, or why it is none. -/
def decode (f : Format) (w : Nat) : Except DecodeError Instr :=
  if 2 ^ f.width ≤ w then .error .tooWide
  else match f with
    | .tk => decodeTk (BitVec.ofNat 8 w)
    | .rst => .ok (decodeRst (BitVec.ofNat 1 w))
    | .cmd => decodeCmd (BitVec.ofNat 24 w)
    | .col => .ok (.col (BitVec.ofNat 8 w))
    | .req => .ok (decodeReq (BitVec.ofNat 2 w))
    | .rsp => .ok (decodeRsp (BitVec.ofNat 1 w))
    | .ev => decodeEv (BitVec.ofNat 18 w)
    | .fn => .ok (decodeFn (BitVec.ofNat 3 w))

/-- The format of an operation (R83). -/
def Instr.format : Instr → Format
  | .fsA => .tk
  | .fsB => .tk
  | .vsAcc => .tk
  | .vsRej => .tk
  | .ncAcc => .tk
  | .ncFin => .tk
  | .ncRej => .tk
  | .rdAcc => .tk
  | .rdFin => .tk
  | .rdBad => .tk
  | .eos => .tk
  | .haltNop => .tk
  | .rstOk => .rst
  | .rstCfgerr => .rst
  | .setpage _ _ _ => .cmd
  | .col _ => .col
  | .reqNone => .req
  | .reqStart => .req
  | .reqClk1 => .req
  | .reqClk2 => .req
  | .rspMatch => .rsp
  | .rspEos => .rsp
  | .setPixel _ _ _ => .ev
  | .present => .ev
  | .record _ _ => .ev
  | .error _ _ => .ev
  | .timedelta => .fn
  | .classifyStart => .fn
  | .classifyClockPeriod => .fn
  | .pack => .fn
  | .sel => .fn
  | .pageDecode => .fn
  | .render => .fn
  | .matchPattern => .fn

/-- The bit that stands for a device in the record (R67). -/
def Device.bit : Device → BitVec 1
  | .primary => 0
  | .secondary => 1

/-- The encoder: the word of an operation in its format, from the same tables; a bit that a `TK` row masks out is 0. -/
def encode : Instr → Nat
  | .fsA => 0x00
  | .fsB => 0x08
  | .vsAcc => 0x24
  | .vsRej => 0x20
  | .ncAcc => 0x44
  | .ncFin => 0x46
  | .ncRej => 0x40
  | .rdAcc => 0x60
  | .rdFin => 0x63
  | .rdBad => 0x62
  | .eos => 0x10
  | .haltNop => 0x80
  | .rstOk => 1
  | .rstCfgerr => 0
  | .setpage p c a => (0b10110#5 ++ p ++ c ++ a).toNat
  | .col v => v.toNat
  | .reqNone => 0
  | .reqStart => 1
  | .reqClk1 => 2
  | .reqClk2 => 3
  | .rspMatch => 0
  | .rspEos => 1
  | .setPixel x y on => (0b00#2 ++ x ++ y ++ BitVec.ofBool on).toNat
  | .present => 0x10000
  | .record page device => (0b10#2 ++ page ++ device.bit ++ 0#12).toNat
  | .error code info => (0b11#2 ++ code ++ 0#5 ++ info).toNat
  | .timedelta => 0
  | .classifyStart => 1
  | .classifyClockPeriod => 2
  | .pack => 3
  | .sel => 4
  | .pageDecode => 5
  | .render => 6
  | .matchPattern => 7

/-- Which format a table word of `nbits` bits is read in. The table's words carry no format tag and the words of the
narrow formats, padded to a byte, are also transition keys and payload bytes; one reading per word is a DESIGN CHOICE
(notes/assumptions/10.md): a byte is a transition key, but for 0x01 to 0x07, which R68 never computes as a key and which
are read as function numbers, and for the keys no row matches, which are read as payload bytes. -/
def tableFormat (nbits w : Nat) : Option Format :=
  if nbits = 8 then
    if 1 ≤ w ∧ w ≤ 7 then some .fn
    else match decodeTk (BitVec.ofNat 8 w) with
      | .ok _ => some .tk
      | .error _ => some .col
  else if nbits = 24 then
    match decodeCmd (BitVec.ofNat 24 w) with
      | .ok _ => some .cmd
      | .error _ => some .ev
  else if nbits = 18 then some .ev
  else if nbits = 3 then some .fn
  else if nbits = 2 then some .req
  else if nbits = 1 then some .rst
  else none

/-- The operation the decoder reads from a word of the table (notes/assumptions/10.md). -/
def decodeTableWord (nbits w : Nat) : Option Instr :=
  match tableFormat nbits w with
  | some f => (decode f w).toOption
  | none => none

end Sys2Proof
end

