-- ==== Sys2Proof/Machine/Fetch.lean ====
section
/-! DEFINITION. How the next operation comes about: the response that answers the wait selects a transition by its key
(R68, R100); the reference front-end turns a raw Sample into a response (R141); reset release selects by `cfg_ok`; a
direct call brings its own word. And `stage`, which prepares a state in which a given operation is the next. -/

namespace Sys2Proof.Machine

/-- What fetching answers: the step is over (with this outcome), or this operation is to run on this state. -/
inductive Fetched where
  | done (o : Res)
  | run (i : Instr) (s : State)

/-- The operation that the held response selects (R68, R69, R100). -/
def selectOp (s : State) : Fetched :=
  match s.rsp with
  | none => .done (.next s)
  | some r =>
    if inDomain s r then
      match decode .tk (transitionKey s r).toNat with
      | .ok i => .run i s
      | .error _ => .done (.refused .undecodable)
    else .done (.refused .indicesNotIncreasing)

/-- A response has been taken: go on with the operation it selects, or stop as taking it did. -/
def deliver (o : Res) : Fetched :=
  match o with
  | .next s => selectOp s
  | .fault f => .done (.fault f)
  | .refused r => .done (.refused r)

/-- The front-end has accepted a Sample: `prev`, `prev_valid` and `next_idx` move on (R141, R145). -/
def acceptSample (lv : Levels) (s : State) : State :=
  { s with prev := lv, prevValid := true, nextIdx := s.nextIdx + 1 }

/-- The front-end's response pins for a Sample that satisfies alternative `alt` (R141). -/
def drivePins (alt idx : Nat) (lv : Levels) (s : State) : State :=
  { s with rspAlt := BitVec.ofNat 1 alt, rspIdx := idx, rspLv := lv }

/-- `fe_step` on a Sample (R141); the request and `prev` are read before they move on. -/
def frontEndSample (lv : Levels) (s : State) : Fetched :=
  if s.eosSeen || decide (s.state = .halted) then .done (.next s)
  else match firstMatch (patternSet s.request) s.prevValid s.prev lv with
    | none => .done (.next (acceptSample lv s))
    | some alt => deliver (execRspMatch (drivePins alt s.nextIdx lv (acceptSample lv s)))

/-- `fe_step` on the `End` mark (R141, R146). -/
def frontEndEnd (s : State) : Fetched :=
  if s.eosSeen || decide (s.state = .halted) then .done (.next s)
  else deliver (execRspEos { s with eosSeen := true })

/-- A level-A response is handed in (R135, R139). -/
def handIn (r : Response) (s : State) : Fetched :=
  match r with
  | .matched alt idx lv => deliver (execRspMatch { s with rspAlt := alt, rspIdx := idx, rspLv := lv })
  | .endOfStream => deliver (execRspEos s)

/-- A direct call: the word decides the operation. The response pins of a level-B instance are inside it, so its RSP rows
cannot be called (R152). -/
def directCall (f : Format) (w : Nat) (args : Args) (s : State) : Fetched :=
  if s.portLevel = .levelB ∧ f = .rsp then .done (.refused .portAbsent)
  else match decode f w with
    | .ok i => .run i { s with args := args }
    | .error _ => .done (.refused .undecodable)

/-- One item of the host's is accepted. -/
def accept (item : Input) (s : State) : Fetched :=
  match item with
  | .sample lv => if s.portLevel = .levelB then frontEndSample lv s else .done (.refused .portAbsent)
  | .endMark => if s.portLevel = .levelB then frontEndEnd s else .done (.refused .portAbsent)
  | .response r => if s.portLevel = .levelA then handIn r s else .done (.refused .portAbsent)
  | .rstAssert => .done (.next (assertReset s))
  | .rstRelease _ _ _ => .done (.refused .configChangedWhileRunning)
  | .call f w args => directCall f w args s

/-- The operation of reset release, by its 1-bit key (R69, R187, R188). -/
def releaseOp (s : State) : Fetched :=
  match decode .rst (BitVec.ofBool (cfgOk s.chMask)).toNat with
  | .ok i => .run i s
  | .error _ => .done (.refused .undecodable)

/-- In reset only the reset line is looked at; every other item is held by its source (R153, R185). The reset line and
the items stand in one queue, of which only the head is looked at, so an item at the head holds a release behind it back
too (DESIGN CHOICE, unsafe, notes/assumptions/42.md). -/
def fetchInReset (s : State) : Fetched :=
  match s.inputs with
  | .rstRelease m n d :: rest => releaseOp { s with inputs := rest, chMask := m, perNum := n, perDen := d }
  | .rstAssert :: rest => .done (.next { s with inputs := rest })
  | _ => .done (.next s)

/-- What the next step does: reset overrides everything (R171), a response that is held comes before further input, and
with nothing to take CORE stays suspended in its wait (R181, R195). -/
def fetch (s : State) : Fetched :=
  if s.rst then fetchInReset s
  else match s.inputs with
    | .rstAssert :: rest => .done (.next (assertReset { s with inputs := rest }))
    | [] => selectOp s
    | item :: rest => if s.rsp.isSome then selectOp s else accept item { s with inputs := rest }

/-- A state in which the direct call of the word is the next thing to happen. -/
def stageCall (f : Format) (w : Nat) (s : State) : State :=
  { s with rst := false, rsp := none, inputs := .call f w s.args :: s.inputs }

/-- The levels of a Sample that clocks a 0 byte under cs1 (R137). -/
def clockLevels : Levels := 0x0006

/-- A state whose held response selects the given transition: registers, response and, where the timing decides, a
period of 0.1 ms. -/
def stageTk (st : Fsm) (cmd pay : List Byte) (r : Response) (s : State) : State :=
  { s with rst := false, state := st, track := .cs1, candIdx := 0, refIdx := 0, cmd := cmd, pay := pay,
           perNum := 1000, perDen := 10000, minIdx := s.minIdx + 64, rsp := some r }

/-- A state in which operation `i`, read from word `w`, is the very next to run (notes/assumptions/2.md). -/
def stage (i : Instr) (w : Nat) (s : State) : State :=
  match i with
  | .fsA => stageTk .findStart [] [] (.matched 0 s.minIdx 0x0001) s
  | .fsB => stageTk .findStart [] [] (.matched 1 s.minIdx 0x0002) s
  | .vsAcc => stageTk .verifyStart [] [] (.matched 0 20 clockLevels) s
  | .vsRej => stageTk .verifyStart [] [] (.matched 0 24 clockLevels) s
  | .ncAcc => stageTk .findNextStartClk [176] [] (.matched 0 40 clockLevels) s
  | .ncFin => stageTk .findNextStartClk [176, 0] [] (.matched 0 40 clockLevels) s
  | .ncRej => stageTk .findNextStartClk [176] [] (.matched 0 43 clockLevels) s
  | .rdAcc => stageTk .readData [176, 0, 0] [] (.matched 0 40 clockLevels) s
  | .rdFin => stageTk .readData [176, 0, 0] (List.replicate 131 0) (.matched 0 40 clockLevels) s
  | .rdBad => stageTk .readData [64, 0, 0] (List.replicate 131 0) (.matched 0 40 clockLevels) s
  | .eos =>
    (match w / 32 with
      | 0 => stageTk .findStart [] [] .endOfStream s
      | 1 => stageTk .verifyStart [] [] .endOfStream s
      | 2 => stageTk .findNextStartClk [176] [] .endOfStream s
      | _ => stageTk .readData [176, 0, 0] [] .endOfStream s)
  | .haltNop => stageTk .halted [] [] .endOfStream s
  | .rstOk => { s with rst := true, inputs := .rstRelease 0x1FFF 1000 10000 :: s.inputs }
  | .rstCfgerr => { s with rst := true, inputs := .rstRelease 0 1000 10000 :: s.inputs }
  | .reqNone => { stageCall .req w s with state := .halted }
  | .reqStart => { stageCall .req w s with state := .findStart }
  | .reqClk1 => { stageCall .req w s with state := .verifyStart, track := .cs1 }
  | .reqClk2 => { stageCall .req w s with state := .verifyStart, track := .cs2 }
  | .rspMatch =>
    { stageCall .rsp w s with portLevel := .levelA, state := .findStart, rspAlt := 0, rspIdx := s.minIdx, rspLv := 0x0001 }
  | .rspEos => { stageCall .rsp w s with portLevel := .levelA }
  | .setpage _ _ _ => stageCall .cmd w s
  | .col _ => stageCall .col w s
  | .setPixel _ _ _ => stageCall .ev w s
  | .present => stageCall .ev w s
  | .record _ _ => stageCall .ev w s
  | .error _ _ => stageCall .ev w s
  | .timedelta => stageCall .fn w s
  | .classifyStart => stageCall .fn w s
  | .classifyClockPeriod => stageCall .fn w s
  | .pack => stageCall .fn w s
  | .sel => stageCall .fn w s
  | .pageDecode => stageCall .fn w s
  | .render => stageCall .fn w s
  | .matchPattern => stageCall .fn w s

end Sys2Proof.Machine
end

