-- ==== Sys2Proof/Machine/Step.lean ====
section
/-! DEFINITION. One step: the next operation is fetched and run, and CORE issues the wait of its new state (R100). -/

namespace Sys2Proof.Machine

/-- After an operation CORE issues the wait of its new state (R100). -/
def issueWait (o : Res) : Res :=
  match o with
  | .next s => Sys2Proof.Machine.exec (Sys2Proof.Machine.waitInstr s) s
  | .fault f => .fault f
  | .refused r => .refused r

/-- One step of the machine. -/
def step (s : State) : Host.Outcome State Fault Refusal :=
  match Sys2Proof.Machine.fetch s with
  | .done o => o
  | .run i t => issueWait (Sys2Proof.Machine.exec i t)

/-- `s` with the operation that a table word stands for placed where the next step takes it (notes/assumptions/2.md); a
word that is no operation is placed as a direct call, which the step refuses. -/
def State.withFetchWord (s : State) (nbits w : Nat) : State :=
  match decodeTableWord nbits w with
  | some i => Sys2Proof.Machine.stage i w s
  | none => Sys2Proof.Machine.stageCall .fn 8 s

end Sys2Proof.Machine
end

