-- ==== Sys2Proof/Machine/Ports.lean ====
section
/-! DEFINITION. The words on the ports: the event word and its payload bus (R77, R78, R152), the response word (R65), the
ready lines (R153), and what the host sees of the registers (R152, R178). Nothing in step depends on this file. -/

namespace Sys2Proof.Machine

/-- The event word `ev` (R77). -/
def eventWord : Event → BitVec 18
  | .setPixel x y on => 0b00#2 ++ x ++ y ++ BitVec.ofBool on
  | .present => 0x10000
  | .record page device _ => 0b10#2 ++ page ++ device.bit ++ 0#12
  | .error code info => 0b11#2 ++ code ++ 0#5 ++ info

/-- The payload bus `rec_bytes` of a record: byte k at bits `[8k + 7 : 8k]` (R78). -/
def recBytes (pay : List Byte) : BitVec 1056 :=
  match pay with
  | [] => 0
  | v :: rest => (recBytes rest <<< 8) ||| v.setWidth 1056

/-- `rsp_kind` (R65). -/
def rspKind : Response → BitVec 1
  | .matched _ _ _ => 0
  | .endOfStream => 1

/-- `state_o` (R152). -/
def State.stateO (s : State) : BitVec 3 := s.state.code

/-- `smp_ready` or `rsp_ready`: 0 in reset, 1 between steps otherwise, in HALTED too (R153). -/
def State.ready (s : State) : Bool := !s.rst

/-- `clk_cnt` (R19). -/
def State.clkCnt (s : State) : Nat := s.cmd.length

/-- `pay_len` (R21). -/
def State.payLen (s : State) : Nat := s.pay.length

end Sys2Proof.Machine
end

