-- ==== Sys2Proof/Safety.lean ====
section
/-! DEFINITION. What a state must satisfy for the machine to be in order, in the terms the statements use: the per-state
payload of R26, the canonical grid, and the relations between the registers that the rules keep. -/

namespace Sys2Proof.Machine

/-- The constraints column of R26: which lengths `cmd` and `pay` have in each state. -/
def payloadShape (s : State) : Bool :=
  match s.state with
  | .findStart => s.cmd.isEmpty && s.pay.isEmpty
  | .verifyStart => s.cmd.isEmpty && s.pay.isEmpty
  | .findNextStartClk => (decide (s.cmd.length = 1) || decide (s.cmd.length = 2)) && s.pay.isEmpty
  | .readData => decide (s.cmd.length = 3) && decide (s.pay.length ≤ 131)
  | .halted => s.cmd.isEmpty && s.pay.isEmpty

/-- CORE is in HALTED exactly when one of the two terminal errors has been recorded (R165, R23). -/
def haltedShape (s : State) : Bool := decide (s.state = .halted) == (s.cfgErr || s.streamEnded)

/-- The configuration of a CORE that decodes has passed the check (R150, R190). -/
def configShape (s : State) : Bool :=
  decide (s.state = .halted) ||
    (cfgOk s.chMask && channelsComplete s.chMask && decide (0 < s.perNum) && decide (0 < s.perDen))

/-- The request on the port is the one of the state (R25, R64). -/
def requestShape (s : State) : Bool := decide (s.reqSel = s.request)

/-- The index a time is measured from, and the index of a held response, have been delivered; a held response comes after
the index its state measures from (R90, R138). -/
def indexShape (s : State) : Bool :=
  (match s.timeRef with
    | some t => decide (t < s.minIdx)
    | none => true) &&
  (match s.rsp with
    | some r => s.state = .halted || (inDomain s r &&
        (match r with
          | .matched _ idx _ => decide (idx < s.minIdx)
          | .endOfStream => true))
    | none => true)

/-- The front-end: no delivered index is ahead of its counter, and once the end has been seen CORE is halted, or the
end of stream is just being delivered (R141, R145). In reset no response is held (R185). -/
def frontEndShape (s : State) : Bool :=
  (decide (s.portLevel = .levelA) || decide (s.minIdx ≤ s.nextIdx)) &&
  (!s.eosSeen || decide (s.state = .halted)) &&
  (!s.rst || s.rsp.isNone)

/-- The invariant. -/
def State.inv (s : State) : Bool :=
  payloadShape s && haltedShape s && configShape s && requestShape s && indexShape s && frontEndShape s &&
    Memory.wf s.grid

/-- A frame's event list: 1056 pixel writes, one refresh, one record (R130). -/
def eventsPerFrame : Nat := 1058

/-- The grid after a list of events, from a given content on (R56). -/
def replay (g : Memory) (evs : List Event) : Memory := evs.foldl applyEvent g

/-- The operation R100's pseudocode performs for a response, written from that pseudocode and not from the keys. -/
def operationOf (s : State) (r : Response) : Instr :=
  match s.state with
  | .halted => .haltNop
  | .findStart =>
    (match r with
      | .endOfStream => .eos
      | .matched alt _ _ => if alt = 0 then .fsA else .fsB)
  | .verifyStart =>
    (match r with
      | .endOfStream => .eos
      | .matched _ idx _ => if s.startInTime idx then .vsAcc else .vsRej)
  | .findNextStartClk =>
    (match r with
      | .endOfStream => .eos
      | .matched _ idx _ => if s.clockInTime idx then (if s.cmd.length = 2 then .ncFin else .ncAcc) else .ncRej)
  | .readData =>
    (match r with
      | .endOfStream => .eos
      | .matched _ _ _ =>
        if s.pay.length = 131 then (if 176 ≤ s.cmd0.toNat ∧ s.cmd0.toNat ≤ 183 then .rdFin else .rdBad) else .rdAcc)

/-- Operations run one after another, stopping at the first that does not answer a next state. -/
def runAll (is : List Instr) (s : State) : Res :=
  match is with
  | [] => .next s
  | i :: rest =>
    match exec i s with
    | .next t => runAll rest t
    | .fault f => .fault f
    | .refused r => .refused r

/-- An outcome with its next state, if any, seen through `f`. -/
def seenThrough {α : Type} (f : State → α) (o : Res) : Host.Outcome α Fault Refusal :=
  match o with
  | .next s => .next (f s)
  | .fault e => .fault e
  | .refused r => .refused r

/-- A state with the dead registers of R26 (and `prev` while `prev_valid` is 0, R27) blanked. -/
def liveView (s : State) : State :=
  let t := if s.prevValid then s else { s with prev := 0 }
  match s.state with
  | .findStart => { t with track := .cs1, candIdx := 0, refIdx := 0 }
  | .verifyStart => { t with refIdx := 0 }
  | .findNextStartClk => { t with candIdx := 0 }
  | .readData => { t with candIdx := 0, refIdx := 0 }
  | .halted => { t with track := .cs1, candIdx := 0, refIdx := 0 }

/-- A state with the grid blanked: what R44 says everything else depends on. -/
def gridless (s : State) : State := { s with grid := [] }

/-- A state without the levels the front-end and the response pins hold: what R156 says rw and e cannot reach. -/
def levelless (s : State) : State := { s with prev := 0, rspLv := 0 }

/-- A state with the bytes of a Command after the first blanked, in `cmd` and in the renderer's operand: what R18 says is
stored and never read. The lengths stay. -/
def tailless (s : State) : State :=
  { s with cmd := s.cmd.take 1 ++ List.replicate (s.cmd.length - 1) 0,
           args := { s.args with cmd := { s.args.cmd with b1 := 0, b2 := 0 } } }

/-- The levels with rw and e blanked (R156). -/
def dropRwE (lv : Levels) : Levels := lv &&& 0x1FE7

/-- A response with rw and e blanked in its levels (R156). -/
def Response.dropRwE (r : Response) : Response :=
  match r with
  | .matched alt idx lv => .matched alt idx (Sys2Proof.Machine.dropRwE lv)
  | .endOfStream => .endOfStream

/-- An item of the host's with rw and e blanked in its levels (R156). -/
def Input.dropRwE (item : Input) : Input :=
  match item with
  | .sample lv => .sample (Sys2Proof.Machine.dropRwE lv)
  | .endMark => .endMark
  | .response r => .response r.dropRwE
  | .rstAssert => .rstAssert
  | .rstRelease m n d => .rstRelease m n d
  | .call f w args => .call f w { args with lv := Sys2Proof.Machine.dropRwE args.lv }

/-- A state with rw and e blanked wherever it holds levels: before the front-end, on the pins, in the held response, in
the operands, and in everything the host has still to hand over (R156). -/
def withoutRwE (s : State) : State :=
  { s with prev := dropRwE s.prev, rspLv := dropRwE s.rspLv, rsp := s.rsp.map Response.dropRwE,
           args := { s.args with lv := dropRwE s.args.lv }, inputs := s.inputs.map Input.dropRwE }

/-- Two Samples with the same levels on every channel but rw and e (R156). -/
def sameButRwE (lv lv' : Levels) : Bool := decide (lv &&& 0x1FE7 = lv' &&& 0x1FE7)

end Sys2Proof.Machine
end

