-- ==== Sys2Proof/Certificates/Slice0/Obligations.lean ====
section
/-! DEFINITION. The statements for the provers, one definition each. Rn is rule n of spec/. -/

open Sys2Proof Sys2Proof.Machine

/-! ### The machine: reset, step, invariant -/

/-- R32: what reset leaves, where the spec gives a value (the configuration passes its check). -/
def Obligations.ResetStateValues : Prop :=
  State.reset.state = .findStart ∧ State.reset.cmd = [] ∧ State.reset.pay = [] ∧ State.reset.status = 0 ∧
    State.reset.prevValid = false ∧ State.reset.nextIdx = 0 ∧ State.reset.eosSeen = false ∧ State.reset.rst = false ∧
    State.reset.reqSel = 1 ∧ State.reset.rsp = none ∧ State.reset.events = []

/-- The invariant holds at reset. -/
def Obligations.ResetHasInvariant : Prop := State.reset.inv = true

/-- Every step keeps the invariant: the payload shapes of R26, HALTED exactly after a terminal error, a checked
configuration, the request of the state on the port, increasing indices, the front-end's counters, a canonical grid. That
the registers keep their values when reset is asserted is the model's reading (notes/assumptions/17.md). -/
def Obligations.StepKeepsInvariant : Prop :=
  ∀ s t : State, s.inv = true → step s = .next t → t.inv = true

/-- R100: a held response selects the operation of the pseudocode, which completes, and the step is that operation
followed by the wait of the new state, which puts `req(state, track)` on the port. -/
def Obligations.StepRunsSelectedTransition : Prop :=
  ∀ (s : State) (r : Response), s.rst = false → s.rsp = some r → inDomain s r = true →
    (∀ rest, s.inputs ≠ .rstAssert :: rest) →
    fetch s = .run (operationOf s r) s ∧
    ∃ u, exec (operationOf s r) s = .next u ∧ step s = .next { u with reqSel := u.request }

/-- R135, R141: a response handed in at level A, and a Sample that satisfies an alternative of the request at level B (its
index the front-end's counter), is taken as the answer of the wait, and the operation it selects runs in the same step.
R139, R141, R146: so is the end of stream, whatever request is outstanding: the level-A response `EndOfStream` and the
level-B mark `End`, at which `eos_seen` becomes 1, run EOS in the same step. -/
def Obligations.DeliveredSampleRunsTransition : Prop :=
  ∀ (s : State) (rest : List Input), s.rst = false → s.rsp = none → s.state ≠ .halted →
    (∀ (lv : Levels) (alt : BitVec 1) (idx : Nat), s.portLevel = .levelA →
      s.inputs = .response (.matched alt idx lv) :: rest →
      responseFits s.request alt lv = true → s.minIdx ≤ idx → inDomain s (.matched alt idx lv) = true →
      ∃ t u, t = { s with inputs := rest, rspAlt := alt, rspIdx := idx, rspLv := lv,
                          rsp := some (.matched alt idx lv), minIdx := idx + 1 } ∧
        exec (operationOf t (.matched alt idx lv)) t = .next u ∧ step s = .next { u with reqSel := u.request }) ∧
    (∀ (lv : Levels) (alt : BitVec 1), s.portLevel = .levelB → s.inputs = .sample lv :: rest → s.eosSeen = false →
      firstMatch (patternSet s.request) s.prevValid s.prev lv = some alt.toNat → s.minIdx ≤ s.nextIdx →
      inDomain s (.matched alt s.nextIdx lv) = true →
      ∃ t u, t = { s with inputs := rest, prev := lv, prevValid := true, nextIdx := s.nextIdx + 1,
                          rspAlt := alt, rspIdx := s.nextIdx, rspLv := lv,
                          rsp := some (.matched alt s.nextIdx lv), minIdx := s.nextIdx + 1 } ∧
        exec (operationOf t (.matched alt s.nextIdx lv)) t = .next u ∧
        step s = .next { u with reqSel := u.request }) ∧
    (s.portLevel = .levelA → s.inputs = .response .endOfStream :: rest →
      exec .eos { s with inputs := rest, rsp := some .endOfStream } =
        .next { s with inputs := rest, status := s.status ||| 2, cmd := [], pay := [], state := .halted } ∧
      step s = .next { s with inputs := rest, status := s.status ||| 2, cmd := [], pay := [], state := .halted,
                              reqSel := 0 }) ∧
    (s.portLevel = .levelB → s.inputs = .endMark :: rest → s.eosSeen = false →
      exec .eos { s with inputs := rest, eosSeen := true, rsp := some .endOfStream } =
        .next { s with inputs := rest, eosSeen := true, status := s.status ||| 2, cmd := [], pay := [],
                       state := .halted } ∧
      step s = .next { s with inputs := rest, eosSeen := true, status := s.status ||| 2, cmd := [], pay := [],
                              state := .halted, reqSel := 0 })

/-- A direct call whose word decodes to `i` is a step that runs `i` on the state with the call's operands, the item taken,
and then issues the wait of the new state. -/
def Obligations.StepRunsCalledOperation : Prop :=
  ∀ (s : State) (f : Format) (w : Nat) (args : Args) (rest : List Input) (i : Instr),
    s.rst = false → s.rsp = none → s.inputs = .call f w args :: rest → (s.portLevel = .levelA ∨ f ≠ .rsp) →
    decode f w = .ok i →
    (∀ u, exec i { s with inputs := rest, args := args } = .next u → step s = .next { u with reqSel := u.request }) ∧
    (∀ e, exec i { s with inputs := rest, args := args } = .fault e → step s = .fault e) ∧
    (∀ e, exec i { s with inputs := rest, args := args } = .refused e → step s = .refused e)

/-- Reset release latches the configuration inputs and runs the operation that the 1-bit key `cfg_ok` selects, and CORE
issues the wait of its new state (R187, R188); a configuration that the operation refuses is refused by the step (R150). -/
def Obligations.StepRunsResetRelease : Prop :=
  ∀ (s : State) (m : BitVec 13) (n d : Nat) (rest : List Input) (i : Instr),
    s.rst = true → s.inputs = .rstRelease m n d :: rest → i = (if m = 0 then .rstCfgerr else .rstOk) →
    (∀ u, exec i { s with inputs := rest, chMask := m, perNum := n, perDen := d } = .next u →
      step s = .next { u with reqSel := u.request }) ∧
    (∀ e, exec i { s with inputs := rest, chMask := m, perNum := n, perDen := d } = .refused e → step s = .refused e)

/-- R185, R153: while reset is asserted nothing happens but to the reset line; an item is held by its source. That the
registers keep their values until release (notes/assumptions/17.md) and that an item at the head of the input also holds
back a release behind it (notes/assumptions/42.md) are the model's choice. -/
def Obligations.ResetHoldsEverything : Prop :=
  ∀ s : State, s.rst = true → (∀ m n d rest, s.inputs ≠ .rstRelease m n d :: rest) →
    (∀ rest, s.inputs ≠ .rstAssert :: rest) → step s = .next s

/-- R171: asserted reset overrides everything, a held response too. That every register but `rst_i`, `req_sel` and the
response keeps its value until release is the model's reading (notes/assumptions/17.md): hardware may clear it at once. -/
def Obligations.ResetAssertedFirst : Prop :=
  ∀ (s : State) (rest : List Input), s.rst = false → s.inputs = .rstAssert :: rest →
    step s = .next { s with inputs := rest, rst := true, reqSel := 0, rsp := none }

/-- R195, R181: with nothing handed over CORE stays as it is, for ever. -/
def Obligations.SuspendedWaitKeepsState : Prop :=
  ∀ s : State, s.rsp = none → s.inputs = [] → step s = .next s

/-- R100: at level B every Sample and every `End` has a next state from every state in order, so no input of a level-B
stream can stop the machine. -/
def Obligations.LevelBStreamNeverStops : Prop :=
  ∀ (s : State) (item : Input) (rest : List Input), s.inv = true → s.portLevel = .levelB → s.inputs = item :: rest →
    ((∃ lv, item = .sample lv) ∨ item = .endMark) → ∃ t, step s = .next t

/-! ### Encodings -/

/-- Decoding the encoding of a well-formed operation gives it back. -/
def Obligations.DecodeOfEncode : Prop :=
  ∀ i : Instr, i.wellFormed = true → decode i.format (encode i) = .ok i

/-- What decodes is well formed and of the format read, and outside the transition keys the word is its encoding: no bit
is dropped. -/
def Obligations.EncodeOfDecode : Prop :=
  ∀ (f : Format) (w : Nat) (i : Instr), decode f w = .ok i →
    i.wellFormed = true ∧ i.format = f ∧ (f ≠ .tk → encode i = w)

/-- R69: exactly one row of the map matches a key with a state code 0 to 4, and none matches another. -/
def Obligations.KeySelectsExactlyOneRow : Prop :=
  ∀ k : Key, (tkRows.filter (fun r => r.matchesKey k)).length = if k.toNat / 32 ≤ 4 then 1 else 0

/-- Words written out from the encoding tables decode to the operations they stand for. -/
def Obligations.WrittenWordsDecode : Prop :=
  decode .tk 0b01000110 = .ok .ncFin ∧ decode .cmd 0xB31234 = .ok (.setpage 3 0x12 0x34) ∧
    decode .ev 0x0423F = .ok (.setPixel 132 31 true) ∧ decode .ev 0x2F000 = .ok (.record 7 .secondary) ∧
    decode .ev 0x36040 = .ok (.error 3 0x40) ∧ decode .req 0b10 = .ok .reqClk1 ∧
    decode .cmd 0xB80000 = .error .illegalCommand

/-! ### The transitions (41_framing_fsm.md) -/

/-- R102, R103: the alternative of the start set that matched decides which device the candidate is on; the other levels
of the Sample are ignored. -/
def Obligations.HandOverBeginsCandidate : Prop :=
  ∀ (s : State) (idx : Nat) (lv : Levels), s.state = .findStart →
    (s.rsp = some (.matched 0 idx lv) → transitionKey s (.matched 0 idx lv) &&& 0xF8 = 0x00 ∧
      selectOp s = .run .fsA s ∧
      exec .fsA s = .next { s with track := .cs2, candIdx := idx, state := .verifyStart, rsp := none }) ∧
    (s.rsp = some (.matched 1 idx lv) → transitionKey s (.matched 1 idx lv) &&& 0xF8 = 0x08 ∧
      selectOp s = .run .fsB s ∧
      exec .fsB s = .next { s with track := .cs1, candIdx := idx, state := .verifyStart, rsp := none })

/-- R104: the first clock edge less than 2.40 ms after the hand-over gives the first command byte. -/
def Obligations.FirstClockInTimeAccepted : Prop :=
  ∀ (s : State) (alt : BitVec 1) (idx : Nat) (lv : Levels), s.state = .verifyStart →
    s.rsp = some (.matched alt idx lv) → s.candIdx < idx →
    (idx - s.candIdx) * s.perNum * 5 < 12 * s.perDen →
    transitionKey s (.matched alt idx lv) &&& 0xF4 = 0x24 ∧ selectOp s = .run .vsAcc s ∧
    exec .vsAcc s =
      .next { s with cmd := [lv.extractLsb' 5 8], refIdx := idx, state := .findNextStartClk, rsp := none }

/-- R105: a first clock edge 2.40 ms or more after the hand-over drops the candidate, silently. -/
def Obligations.FirstClockTooLateRejected : Prop :=
  ∀ (s : State) (alt : BitVec 1) (idx : Nat) (lv : Levels), s.state = .verifyStart →
    s.rsp = some (.matched alt idx lv) → s.candIdx < idx →
    12 * s.perDen ≤ (idx - s.candIdx) * s.perNum * 5 →
    transitionKey s (.matched alt idx lv) &&& 0xF4 = 0x20 ∧ selectOp s = .run .vsRej s ∧
    exec .vsRej s = .next { s with cmd := [], pay := [], state := .findStart, rsp := none }

/-- R106: a second command byte 3.7 to 4.2 ms after the first. -/
def Obligations.SecondCommandByteAccepted : Prop :=
  ∀ (s : State) (alt : BitVec 1) (idx : Nat) (lv : Levels), s.state = .findNextStartClk →
    s.rsp = some (.matched alt idx lv) → s.refIdx < idx → s.cmd.length = 1 →
    37 * s.perDen ≤ (idx - s.refIdx) * s.perNum * 10 → (idx - s.refIdx) * s.perNum * 10 ≤ 42 * s.perDen →
    transitionKey s (.matched alt idx lv) &&& 0xF6 = 0x44 ∧ selectOp s = .run .ncAcc s ∧
    exec .ncAcc s = .next { s with cmd := s.cmd ++ [lv.extractLsb' 5 8], refIdx := idx, rsp := none }

/-- R107: the third command byte completes the Command; `ref_idx` is dead after it and nothing is said of it. -/
def Obligations.ThirdCommandByteCompletes : Prop :=
  ∀ (s : State) (alt : BitVec 1) (idx : Nat) (lv : Levels), s.state = .findNextStartClk →
    s.rsp = some (.matched alt idx lv) → s.refIdx < idx → s.cmd.length = 2 →
    37 * s.perDen ≤ (idx - s.refIdx) * s.perNum * 10 → (idx - s.refIdx) * s.perNum * 10 ≤ 42 * s.perDen →
    transitionKey s (.matched alt idx lv) &&& 0xF6 = 0x46 ∧ selectOp s = .run .ncFin s ∧
    ∃ anyRef : Nat, exec .ncFin s = .next { s with cmd := s.cmd ++ [lv.extractLsb' 5 8], pay := [], state := .readData,
                                                   refIdx := anyRef, rsp := none }

/-- R108: a clock edge less than 3.7 ms or more than 4.2 ms after the one before drops the candidate, silently, whatever
it has collected. -/
def Obligations.ClockOutOfWindowRejected : Prop :=
  ∀ (s : State) (alt : BitVec 1) (idx : Nat) (lv : Levels), s.state = .findNextStartClk →
    s.rsp = some (.matched alt idx lv) → s.refIdx < idx →
    ((idx - s.refIdx) * s.perNum * 10 < 37 * s.perDen ∨ 42 * s.perDen < (idx - s.refIdx) * s.perNum * 10) →
    transitionKey s (.matched alt idx lv) &&& 0xF4 = 0x40 ∧ selectOp s = .run .ncRej s ∧
    exec .ncRej s = .next { s with cmd := [], pay := [], state := .findStart, rsp := none }

/-- R109: a payload byte while the frame is not full; no other test. -/
def Obligations.PayloadByteAppended : Prop :=
  ∀ (s : State) (alt : BitVec 1) (idx : Nat) (lv : Levels), s.state = .readData →
    s.rsp = some (.matched alt idx lv) → s.pay.length ≤ 130 →
    transitionKey s (.matched alt idx lv) &&& 0xF2 = 0x60 ∧ selectOp s = .run .rdAcc s ∧
    exec .rdAcc s = .next { s with pay := s.pay ++ [lv.extractLsb' 5 8], rsp := none }

/-- R110: the 132nd payload byte under a legal page code renders the frame, in the half that the Sample of that byte
selects, and CORE is back in FIND_START. -/
def Obligations.FullFrameRendered : Prop :=
  ∀ (s : State) (alt : BitVec 1) (idx : Nat) (lv : Levels) (page : BitVec 3), s.state = .readData →
    s.rsp = some (.matched alt idx lv) → s.pay.length = 131 → s.cmd0.toNat = 176 + page.toNat →
    transitionKey s (.matched alt idx lv) &&& 0xF3 = 0x63 ∧ selectOp s = .run .rdFin s ∧
    exec .rdFin s = .next
      { s with
        grid := replay s.grid (renderEvents page (!lv.getLsbD 1 && lv.getLsbD 0) (s.pay ++ [lv.extractLsb' 5 8])),
        events := s.events ++ renderEvents page (!lv.getLsbD 1 && lv.getLsbD 0) (s.pay ++ [lv.extractLsb' 5 8]),
        cmd := [], pay := [], state := .findStart, rsp := none }

/-- What a rendered frame shows: every payload byte is one column, bit 7 - r at row r of the band; every other cell of the
grid keeps its content (R47, R49, R123, R124). -/
def Obligations.FullFramePixels : Prop :=
  ∀ (s : State) (alt : BitVec 1) (idx : Nat) (lv : Levels) (page : BitVec 3), s.state = .readData →
    s.rsp = some (.matched alt idx lv) → s.pay.length = 131 → s.cmd0.toNat = 176 + page.toNat →
    Memory.wf s.grid = true →
    ∃ t, exec .rdFin s = .next t ∧
      (∀ i r : Nat, i < 132 → r < 8 →
        pixel t.grid (i + (if lv.getLsbD 1 = false ∧ lv.getLsbD 0 = true then 132 else 0)) (8 * page.toNat + r) =
          ((s.pay ++ [lv.extractLsb' 5 8]).getD i 0).getLsbD (7 - r)) ∧
      (∀ x y : Nat, x < 264 → y < 64 →
        ¬ ((if lv.getLsbD 1 = false ∧ lv.getLsbD 0 = true then 132 else 0) ≤ x ∧
            x < (if lv.getLsbD 1 = false ∧ lv.getLsbD 0 = true then 132 else 0) + 132 ∧
            8 * page.toNat ≤ y ∧ y < 8 * page.toNat + 8) →
        pixel t.grid x y = pixel s.grid x y)

/-- R111: the 132nd payload byte under an illegal page code reports it and draws nothing. -/
def Obligations.UnknownPageReported : Prop :=
  ∀ (s : State) (alt : BitVec 1) (idx : Nat) (lv : Levels), s.state = .readData →
    s.rsp = some (.matched alt idx lv) → s.pay.length = 131 → (s.cmd0.toNat < 176 ∨ 183 < s.cmd0.toNat) →
    transitionKey s (.matched alt idx lv) &&& 0xF3 = 0x62 ∧ selectOp s = .run .rdBad s ∧
    exec .rdBad s = .next
      { s with status := s.status ||| 4, events := s.events ++ [.error 3 s.cmd0],
               cmd := [], pay := [], state := .findStart, rsp := none }

/-- R112: end of stream in any of the four decoding states halts CORE and emits nothing. -/
def Obligations.EndOfStreamHalts : Prop :=
  ∀ s : State, s.state ≠ .halted → s.rsp = some .endOfStream →
    transitionKey s .endOfStream &&& 0x90 = 0x10 ∧ selectOp s = .run .eos s ∧
    exec .eos s = .next { s with status := s.status ||| 2, cmd := [], pay := [], state := .halted, rsp := none }

/-- R113: in HALTED no wait is issued, and a response is ignored: one that is held, and one that a level-A driver
presents, which the step takes and drops with no other change. That its fields stay on the response pins is the model's
reading (notes/assumptions/37.md). -/
def Obligations.HaltedIgnoresResponse : Prop :=
  ∀ s : State, s.state = .halted →
    (∀ r : Response, s.rsp = some r →
      s.request = 0 ∧ transitionKey s r &&& 0xE0 = 0x80 ∧ selectOp s = .run .haltNop s ∧
      exec .haltNop s = .next { s with rsp := none }) ∧
    (s.rst = false → s.rsp = none → s.portLevel = .levelA → ∀ rest : List Input,
      (∀ (alt : BitVec 1) (idx : Nat) (lv : Levels), s.inputs = .response (.matched alt idx lv) :: rest →
        step s = .next { s with inputs := rest, rspAlt := alt, rspIdx := idx, rspLv := lv, reqSel := 0 }) ∧
      (s.inputs = .response .endOfStream :: rest → step s = .next { s with inputs := rest, reqSel := 0 }))

/-- Only reset leaves HALTED: in any other step, whatever the host hands over, CORE stays there. That it stays there also
in the step that takes the assertion of reset, and leaves only at release, is the model's reading
(notes/assumptions/17.md): hardware may clear the register at once. -/
def Obligations.OnlyResetLeavesHalted : Prop :=
  ∀ s t : State, s.state = .halted → s.rst = false → step s = .next t → t.state = .halted

/-- STATUS bits are sticky: only reset clears one (R23). That they also outlast the step that takes the assertion of
reset, and are cleared only at release, is the model's reading (notes/assumptions/17.md): hardware may clear them at
once. -/
def Obligations.StatusBitsSticky : Prop :=
  ∀ s t : State, s.rst = false → step s = .next t → s.status &&& t.status = s.status

/-- The Command's second and third byte influence nothing (R18, R71): states that differ only in them have, for every
operation and for the step, outcomes that differ only in them. -/
def Obligations.CommandTailNeverRead : Prop :=
  ∀ s s' : State, tailless s = tailless s' →
    (∀ i : Instr, seenThrough tailless (exec i s) = seenThrough tailless (exec i s')) ∧
    seenThrough tailless (step s) = seenThrough tailless (step s')

/-! ### Reset operations (70_reset_and_hazards.md) -/

/-- RST.OK with a complete configuration: the reset values of R32 that the spec gives; the grid, the events, the
configuration and the host's side unchanged. Nothing is said of `track`, `cand_idx`, `ref_idx` and `prev`, which are
unspecified, nor of the model's counter of free values. -/
def Obligations.ResetReleaseStarts : Prop :=
  ∀ s : State, s.rst = true → s.chMask &&& 0x1FE7 = 0x1FE7 → 0 < s.perNum → 0 < s.perDen →
    ∃ (track : Track) (candIdx refIdx freeCount : Nat) (prev : Levels),
      exec .rstOk s = .next
        { s with state := .findStart, cmd := [], pay := [], status := 0, prevValid := false, nextIdx := 0, eosSeen := false,
                 rst := false, rsp := none, minIdx := 0,
                 track := track, candIdx := candIdx, refIdx := refIdx, prev := prev, freeCount := freeCount }

/-- RST.CFGERR: with no channel configured CORE is halted with CFG_ERR, and nothing else is recorded or emitted (R161,
R188). -/
def Obligations.ResetReleaseConfigError : Prop :=
  ∀ s : State, s.rst = true → s.chMask = 0 →
    ∃ (track : Track) (candIdx refIdx freeCount : Nat) (prev : Levels),
      exec .rstCfgerr s = .next
        { s with state := .halted, cmd := [], pay := [], status := 1, prevValid := false, nextIdx := 0, eosSeen := false,
                 rst := false, rsp := none, minIdx := 0,
                 track := track, candIdx := candIdx, refIdx := refIdx, prev := prev, freeCount := freeCount }

/-- A non-zero CH_MASK that lacks a channel CORE reads is refused (R150, U3), and so is a period that is not positive. -/
def Obligations.ResetRefusesUnusableConfig : Prop :=
  ∀ s : State, s.rst = true → s.chMask ≠ 0 →
    (s.chMask &&& 0x1FE7 ≠ 0x1FE7 → exec .rstOk s = .refused .partialChannelMask) ∧
    (s.chMask &&& 0x1FE7 = 0x1FE7 → (s.perNum = 0 ∨ s.perDen = 0) → exec .rstOk s = .refused .badPeriod)

/-! ### The renderer and the output events (42_frame_renderer.md, 20_memory.md) -/

/-- SETPAGE: the word `10110ppp cccccccc aaaaaaaa` becomes the renderer's Command and selects page `p` (the model's
reading of the row as an operation of its own, notes/assumptions/21.md). -/
def Obligations.SetpageSelectsPage : Prop :=
  ∀ (s : State) (p : BitVec 3) (c a : Byte),
    exec (.setpage p c a) s = .next
      { s with args := { s.args with cmd := ⟨BitVec.ofNat 8 (176 + p.toNat), c, a⟩, colIdx := 0 }, ret := .page p }

/-- COL draws one column: bit 7 - r at row r of the band of the renderer's Command, no other cell; eight events; an index
past the frame is a fault; under an illegal page code nothing is drawn and the error is reported. That the row acts alone
in this way is the model's reading (notes/assumptions/22.md). -/
def Obligations.ColumnDrawn : Prop :=
  ∀ (s : State) (v : Byte), Memory.wf s.grid = true →
    (∀ page : BitVec 3, s.args.cmd.b0.toNat = 176 + page.toNat →
      (132 ≤ s.args.colIdx → exec (.col v) s = .fault .columnOutsideFrame) ∧
      (s.args.colIdx < 132 →
        ∃ g, exec (.col v) s = .next
            { s with grid := g, args := { s.args with colIdx := s.args.colIdx + 1 },
                     events := s.events ++ (List.range 8).map (fun r =>
                       .setPixel (BitVec.ofNat 9 (s.args.colIdx + if s.args.sel then 132 else 0))
                         (BitVec.ofNat 6 (8 * page.toNat + r)) (v.getLsbD (7 - r))) } ∧
          ∀ x y : Nat, x < 264 → y < 64 →
            pixel g x y =
              if x = s.args.colIdx + (if s.args.sel then 132 else 0) ∧ 8 * page.toNat ≤ y ∧ y < 8 * page.toNat + 8 then
                v.getLsbD (7 - (y - 8 * page.toNat))
              else pixel s.grid x y)) ∧
    ((s.args.cmd.b0.toNat < 176 ∨ 183 < s.args.cmd.b0.toNat) →
      exec (.col v) s = .next { s with status := s.status ||| 4, events := s.events ++ [.error 3 s.args.cmd.b0] })

/-- RENDER called directly (R120): on a legal page code the events of the render leave CORE and write their cells; on
another no cell changes and the only event is the error (R126). What a failing direct call does to `STATUS` and to the
sequencing state is the model's reading (notes/assumptions/23.md). -/
def Obligations.RenderCalledDirectly : Prop :=
  ∀ s : State,
    (∀ page : BitVec 3, s.args.cmd.b0.toNat = 176 + page.toNat →
      exec .render s = .next
        { s with grid := replay s.grid (renderEvents page s.args.sel s.args.pay.toList),
                 events := s.events ++ renderEvents page s.args.sel s.args.pay.toList }) ∧
    ((s.args.cmd.b0.toNat < 176 ∨ 183 < s.args.cmd.b0.toNat) →
      exec .render s = .next { s with status := s.status ||| 4, events := s.events ++ [.error 3 s.args.cmd.b0] })

/-- R130, R52: a render of 132 bytes has 1058 events; number 8 i + r is the write of cell
(i + column offset, 8 page + r) with bit 7 - r of byte i; then PRESENT, then RECORD. -/
def Obligations.RenderEventOrder : Prop :=
  ∀ (page : BitVec 3) (sel : Bool) (pay : List Byte), pay.length = 132 →
    (renderEvents page sel pay).length = 1058 ∧
    (∀ i r : Nat, i < 132 → r < 8 →
      (renderEvents page sel pay)[8 * i + r]? =
        some (.setPixel (BitVec.ofNat 9 (i + if sel then 132 else 0)) (BitVec.ofNat 6 (8 * page.toNat + r))
          ((pay.getD i 0).getLsbD (7 - r)))) ∧
    (renderEvents page sel pay)[1056]? = some .present ∧
    (renderEvents page sel pay)[1057]? = some (.record page (if sel then .secondary else .primary) pay)

/-- R127: two renders with the same page code, payload and DeviceSelector emit the same events, whatever else the two
states hold; over different grids they leave the same values in the 1056 cells; and the second of two in a row changes
no cell. -/
def Obligations.RenderOfItsOperandsOnly : Prop :=
  ∀ s s' : State, Memory.wf s.grid = true → Memory.wf s'.grid = true → s'.args.cmd.b0 = s.args.cmd.b0 →
    s'.args.pay = s.args.pay → s'.args.sel = s.args.sel →
    ∃ evs t t', exec .render s = .next t ∧ exec .render s' = .next t' ∧ t.events = s.events ++ evs ∧
      t'.events = s'.events ++ evs ∧ (s'.grid = t.grid → t'.grid = t.grid) ∧
      (∀ page : BitVec 3, s.args.cmd.b0.toNat = 176 + page.toNat → ∀ i r : Nat, i < 132 → r < 8 →
        pixel t'.grid (i + if s.args.sel then 132 else 0) (8 * page.toNat + r) =
          pixel t.grid (i + if s.args.sel then 132 else 0) (8 * page.toNat + r))

/-- RENDER is SETPAGE, 132 times COL, PRESENT and RECORD: the same grid and the same events, whatever the Command's other
bytes. That SETPAGE, COL and RECORD act alone in this way is the model's reading (notes/assumptions/21.md, 22.md,
25.md). -/
def Obligations.RenderIsItsSteps : Prop :=
  ∀ (s : State) (page : BitVec 3) (c a : Byte), s.args.cmd.b0.toNat = 176 + page.toNat →
    ∃ t u, exec .render s = .next t ∧
      runAll (.setpage page c a :: s.args.pay.toList.map .col ++
        [.present, .record page (if s.args.sel then .secondary else .primary)]) s = .next u ∧
      u.grid = t.grid ∧ u.events = t.events

/-- R43: SET_PIXEL writes one cell of the grid and changes no other; outside the grid it is a fault. -/
def Obligations.SetPixelWritesOneCell : Prop :=
  ∀ (s : State) (x : BitVec 9) (y : BitVec 6) (on : Bool), Memory.wf s.grid = true →
    (264 ≤ x.toNat → exec (.setPixel x y on) s = .fault .cellOutsideGrid) ∧
    (x.toNat < 264 →
      ∃ g, exec (.setPixel x y on) s = .next { s with grid := g, events := s.events ++ [.setPixel x y on] } ∧
        Memory.wf g = true ∧
        ∀ x' y' : Nat, x' < 264 → y' < 64 →
          pixel g x' y' = if x' = x.toNat ∧ y' = y.toNat then on else pixel s.grid x' y')

/-- PRESENT, RECORD and the ERROR event of an unknown page leave CORE and change nothing else; that the record of a row
called alone carries the payload operand of the call is the model's reading (notes/assumptions/25.md). An ERROR event
with another code is never emitted (R168): with one of the codes in use nothing leaves CORE (notes/assumptions/24.md),
and the unused ones are refused. -/
def Obligations.OtherEventsLeaveCore : Prop :=
  ∀ (s : State) (page : BitVec 3) (device : Device) (info : Byte),
    exec .present s = .next { s with events := s.events ++ [.present] } ∧
    exec (.record page device) s = .next { s with events := s.events ++ [.record page device s.args.pay.toList] } ∧
    exec (.error 3 info) s = .next { s with events := s.events ++ [.error 3 info] } ∧
    (∀ code : BitVec 3, code ≠ 3 → code.toNat ≤ 4 → exec (.error code info) s = .next s) ∧
    (∀ code : BitVec 3, 4 < code.toNat → exec (.error code info) s = .refused .errorCodeUnused)

/-- R28, R56: in every step the grid is the grid before with the events of the step applied in order. -/
def Obligations.GridIsFoldOfEvents : Prop :=
  ∀ s t : State, step s = .next t → ∃ evs, t.events = s.events ++ evs ∧ t.grid = replay s.grid evs

/-- R166: a step that draws without having been called to draw directly draws a whole frame: it emits nothing, one error,
or all the events of one render with 132 bytes. -/
def Obligations.NoPartialFrame : Prop :=
  ∀ s t : State, (∀ f w args rest, s.inputs ≠ .call f w args :: rest) → step s = .next t →
    t.events = s.events ∨ (∃ info, t.events = s.events ++ [.error 3 info]) ∨
    (∃ page sel pay, pay.length = 132 ∧ t.events = s.events ++ renderEvents page sel pay)

/-- R44: the content of the grid influences nothing else: with another grid every step has the same outcome but for the
grid. -/
def Obligations.GridNeverRead : Prop :=
  ∀ (s : State) (g : Memory), seenThrough gridless (step { s with grid := g }) = seenThrough gridless (step s)

/-! ### Interfaces (43_interfaces.md) -/

/-- R25, R64: the request rows put the code of `req(state, track)` on the port; in reset it is 0 in every state. -/
def Obligations.RequestRowsDrivePort : Prop :=
  ∀ s : State,
    ((s.rst = true ∨ s.state = .halted) → exec .reqNone s = .next { s with reqSel := 0 }) ∧
    (s.rst = false →
      (s.state = .findStart → exec .reqStart s = .next { s with reqSel := 1 }) ∧
      ((s.state = .verifyStart ∨ s.state = .findNextStartClk ∨ s.state = .readData) →
        (s.track = .cs1 → exec .reqClk1 s = .next { s with reqSel := 2 }) ∧
        (s.track = .cs2 → exec .reqClk2 s = .next { s with reqSel := 3 })))

/-- The response rows: a Sample that can answer the request and is later than all before, or the end of stream, is taken
as the answer of the wait (R65, R135, R139); in HALTED any response is taken. A Sample that cannot satisfy the reported
alternative (U7) and an index that does not increase (U6) are refused. -/
def Obligations.ResponseTaken : Prop :=
  ∀ s : State, s.rst = false → s.rsp = none →
    (s.state ≠ .halted → responseFits s.request s.rspAlt s.rspLv = true → s.minIdx ≤ s.rspIdx →
      exec .rspMatch s = .next { s with rsp := some (.matched s.rspAlt s.rspIdx s.rspLv), minIdx := s.rspIdx + 1 }) ∧
    (s.state ≠ .halted → responseFits s.request s.rspAlt s.rspLv = true → s.rspIdx < s.minIdx →
      exec .rspMatch s = .refused .indicesNotIncreasing) ∧
    (s.state ≠ .halted → responseFits s.request s.rspAlt s.rspLv = false →
      exec .rspMatch s = .refused .responseNotOfRequest) ∧
    (s.state = .halted → exec .rspMatch s = .next { s with rsp := some (.matched s.rspAlt s.rspIdx s.rspLv) }) ∧
    exec .rspEos s = .next { s with rsp := some .endOfStream }

/-- R141: a Sample that matches nothing is consumed by the front-end and never seen by CORE. -/
def Obligations.UnmatchedSampleConsumed : Prop :=
  ∀ (s : State) (lv : Levels) (rest : List Input), s.rst = false → s.rsp = none → s.portLevel = .levelB →
    s.eosSeen = false → s.state ≠ .halted → s.inputs = .sample lv :: rest →
    firstMatch (patternSet s.request) s.prevValid s.prev lv = none →
    step s = .next { s with inputs := rest, prev := lv, prevValid := true, nextIdx := s.nextIdx + 1 }

/-- R141, R146: after the end, or in HALTED, an item of the stream is dropped and changes nothing. -/
def Obligations.LateItemsDropped : Prop :=
  ∀ (s : State) (item : Input) (rest : List Input), s.rst = false → s.rsp = none → s.portLevel = .levelB →
    (s.eosSeen = true ∨ s.state = .halted) → s.inputs = item :: rest → ((∃ lv, item = .sample lv) ∨ item = .endMark) →
    step s = .next { s with inputs := rest }

/-- R196, R137: what each request matches. A start is a hand-over in one Sample, and a clock edge counts only while the
tracked chip select is low. -/
def Obligations.RequestsMatchExactly : Prop :=
  ∀ (pv : Bool) (prev lv : Levels),
    (firstMatch (patternSet 1) pv prev lv = some 0 ↔
      pv = true ∧ prev.getLsbD 0 = false ∧ lv.getLsbD 0 = true ∧ prev.getLsbD 1 = true ∧ lv.getLsbD 1 = false) ∧
    (firstMatch (patternSet 1) pv prev lv = some 1 ↔
      pv = true ∧ prev.getLsbD 0 = true ∧ lv.getLsbD 0 = false ∧ prev.getLsbD 1 = false ∧ lv.getLsbD 1 = true) ∧
    (firstMatch (patternSet 2) pv prev lv = some 0 ↔
      pv = true ∧ lv.getLsbD 0 = false ∧ prev.getLsbD 2 = false ∧ lv.getLsbD 2 = true) ∧
    (firstMatch (patternSet 3) pv prev lv = some 0 ↔
      pv = true ∧ lv.getLsbD 1 = false ∧ prev.getLsbD 2 = false ∧ lv.getLsbD 2 = true)

/-- R205: nothing can match at the first Sample. -/
def Obligations.FirstSampleMatchesNothing : Prop :=
  ∀ (s : State) (lv : Levels) (rest : List Input), s.rst = false → s.rsp = none → s.portLevel = .levelB →
    s.eosSeen = false → s.state ≠ .halted → s.prevValid = false → s.inputs = .sample lv :: rest →
    step s = .next { s with inputs := rest, prev := lv, prevValid := true, nextIdx := s.nextIdx + 1 }

/-- R156: the levels of rw and e change nothing but what the front-end and the response pins remember of them, in a
Sample of the stream and in one handed in as a response; and what is remembered changes nothing later: states that
differ only in rw and e, wherever they hold levels, step to states that differ only so. A direct call of MATCH_PATTERN,
whose pattern operand may name these channels, is apart. -/
def Obligations.RwAndELevelsIgnored : Prop :=
  (∀ (s : State) (lv lv' : Levels) (alt : BitVec 1) (idx : Nat) (rest : List Input), s.rst = false → s.rsp = none →
    sameButRwE lv lv' = true →
    seenThrough levelless (step { s with inputs := .sample lv :: rest }) =
      seenThrough levelless (step { s with inputs := .sample lv' :: rest }) ∧
    seenThrough levelless (step { s with inputs := .response (.matched alt idx lv) :: rest }) =
      seenThrough levelless (step { s with inputs := .response (.matched alt idx lv') :: rest })) ∧
  (∀ s s' : State, withoutRwE s = withoutRwE s' → (∀ args rest, s.inputs ≠ .call .fn 7 args :: rest) →
    seenThrough withoutRwE (step s) = seenThrough withoutRwE (step s'))

/-- R12, R33: no rule reads a dead register: states that agree on the live registers have outcomes that agree on them. -/
def Obligations.DeadRegistersNeverRead : Prop :=
  ∀ s s' : State, liveView s = liveView s' → seenThrough liveView (step s) = seenThrough liveView (step s')

/-- MATCH_PATTERN called directly: true exactly when every channel's predicate holds on the Sample and the one before
(R62, R136, R142). That the Sample before is the state's `prev`, valid by `prev_valid`, at a level-A instance too, which
has no front-end, is the model's choice (notes/assumptions/43.md). -/
def Obligations.PatternTestExact : Prop :=
  ∀ s : State, (∀ k : Nat, k < 13 → ((s.args.pat.extractLsb' (3 * k) 3).toNat ≤ 4)) →
    ∃ v, exec .matchPattern s = .next { s with ret := .verdict v } ∧
      (v = true ↔ ∀ k : Nat, k < 13 →
        ((s.args.pat.extractLsb' (3 * k) 3).toNat = 1 → s.args.lv.getLsbD k = false) ∧
        ((s.args.pat.extractLsb' (3 * k) 3).toNat = 2 → s.args.lv.getLsbD k = true) ∧
        ((s.args.pat.extractLsb' (3 * k) 3).toNat = 3 →
          s.prevValid = true ∧ s.prev.getLsbD k = false ∧ s.args.lv.getLsbD k = true) ∧
        ((s.args.pat.extractLsb' (3 * k) 3).toNat = 4 →
          s.prevValid = true ∧ s.prev.getLsbD k = true ∧ s.args.lv.getLsbD k = false))

/-- R147: `pack` is the sum of the data lines, d0 least significant, which is bits 12 to 5 of the levels. -/
def Obligations.PackIsWeightedSum : Prop :=
  ∀ s : State, ∃ b : Byte, exec .pack s = .next { s with ret := .byte b } ∧ b = s.args.lv.extractLsb' 5 8 ∧
    b.toNat = (s.args.lv.getLsbD 5).toNat + 2 * (s.args.lv.getLsbD 6).toNat + 4 * (s.args.lv.getLsbD 7).toNat +
      8 * (s.args.lv.getLsbD 8).toNat + 16 * (s.args.lv.getLsbD 9).toNat + 32 * (s.args.lv.getLsbD 10).toNat +
      64 * (s.args.lv.getLsbD 11).toNat + 128 * (s.args.lv.getLsbD 12).toNat

/-- R115: `SEL` is true exactly when cs2 is low and cs1 is high; on a Sample that can answer the clock pattern of device 1
it is false, and on one that can answer that of device 2 it is the level of cs1. -/
def Obligations.SelectorFromLevels : Prop :=
  ∀ s : State, ∃ v, exec .sel s = .next { s with ret := .verdict v } ∧
    (v = true ↔ s.args.lv.getLsbD 1 = false ∧ s.args.lv.getLsbD 0 = true) ∧
    (responseFits 2 0 s.args.lv = true → v = false) ∧
    (responseFits 3 0 s.args.lv = true → v = s.args.lv.getLsbD 0)

/-- R121: the page is the code less 176 inside the set; outside it decoding fails with the offending byte. That a failing
PAGE_DECODE run alone only returns the failure is the model's reading (notes/assumptions/23.md). -/
def Obligations.PageDecodeExact : Prop :=
  ∀ s : State,
    (∀ page : BitVec 3, s.args.cmd.b0.toNat = 176 + page.toNat → exec .pageDecode s = .next { s with ret := .page page }) ∧
    ((s.args.cmd.b0.toNat < 176 ∨ 183 < s.args.cmd.b0.toNat) →
      exec .pageDecode s = .next { s with ret := .fails .unknownPageCode s.args.cmd.b0 })

/-! ### The Timing Classifier (40_timing_classifier.md) -/

/-- R90: under a period as R7 gives it the time difference is the exact rational; indices the wrong way round are outside
the domain. -/
def Obligations.TimeDeltaExact : Prop :=
  ∀ s : State,
    (0 < s.perNum → 0 < s.perDen → s.args.a ≤ s.args.b → ∃ q : Time, exec .timedelta s = .next { s with ret := .time q } ∧
      (q.num : ℚ) / q.den = ((s.args.b : ℚ) - s.args.a) * s.perNum / s.perDen) ∧
    (s.args.b < s.args.a → exec .timedelta s = .refused .indicesNotIncreasing)

/-- R91: true exactly below 12/5 ms. -/
def Obligations.StartWindowExact : Prop :=
  ∀ s : State, s.args.q.den ≠ 0 →
    ∃ v, exec .classifyStart s = .next { s with ret := .verdict v } ∧
      (v = true ↔ (s.args.q.num : ℚ) / s.args.q.den < 12 / 5)

/-- R92: true exactly from 37/10 to 42/10 ms, both included. -/
def Obligations.ClockWindowExact : Prop :=
  ∀ s : State, s.args.q.den ≠ 0 →
    ∃ v, exec .classifyClockPeriod s = .next { s with ret := .verdict v } ∧
      (v = true ↔ (37 / 10 : ℚ) ≤ (s.args.q.num : ℚ) / s.args.q.den ∧ (s.args.q.num : ℚ) / s.args.q.den ≤ 42 / 10)

/-- R93: both classifiers are integer comparisons of the index difference, with the products and with the three
thresholds, which are the ceilings and the floor of the rational bounds. -/
def Obligations.TickThresholdsAgree : Prop :=
  ∀ perNum perDen a b : Nat, 0 < perNum → 0 < perDen → a ≤ b →
    (classifyStart (deltaMs perNum perDen a b) = true ↔ (b - a) * perNum * 5 < 12 * perDen) ∧
    (classifyStart (deltaMs perNum perDen a b) = true ↔ b - a < startLim perNum perDen) ∧
    (classifyClockPeriod (deltaMs perNum perDen a b) = true ↔
      37 * perDen ≤ (b - a) * perNum * 10 ∧ (b - a) * perNum * 10 ≤ 42 * perDen) ∧
    (classifyClockPeriod (deltaMs perNum perDen a b) = true ↔
      clkMinT perNum perDen ≤ b - a ∧ b - a ≤ clkMaxT perNum perDen) ∧
    startLim perNum perDen = ⌈(12 * perDen : ℚ) / (5 * perNum)⌉₊ ∧
    clkMinT perNum perDen = ⌈(37 * perDen : ℚ) / (10 * perNum)⌉₊ ∧
    clkMaxT perNum perDen = ⌊(42 * perDen : ℚ) / (10 * perNum)⌋₊
end

