-- ==== Sys2Proof/Laws/Grid.lean ====
section
/-! SUPPORT. The laws of the PixelGrid: a write reads back, leaves every other cell alone and keeps the canonical form;
the same for a list of events. -/

namespace Sys2Proof.Machine

/-- The canonical form as a proposition. -/
theorem wf_iff (g : Memory) : Memory.wf g = true ↔
    g.Pairwise (fun c d => c.1 < d.1) ∧ ∀ c ∈ g, c.1 < gridCells ∧ c.2 = 1 := by
  simp [Memory.wf, List.all_eq_true]

/-- A listed cell after a write was listed before, or is the one written. -/
theorem mem_put {g : Memory} {a : Nat} {v : Byte} {c : Host.Cell} (h : c ∈ Memory.put g a v) :
    c ∈ g ∨ (c = (a, v) ∧ v ≠ Memory.unlisted) := by
  induction g with
  | nil => unfold Memory.put at h; split at h <;> simp_all
  | cons d rest ih =>
    unfold Memory.put at h
    split at h
    · split at h <;> simp_all
      tauto
    · split at h
      · split at h <;> simp_all
        tauto
      · rcases List.mem_cons.1 h with rfl | h
        · simp
        · rcases ih h with h | h
          · simp [h]
          · exact .inr h

/-- Rising addresses stay rising. -/
theorem put_sorted {g : Memory} (a : Nat) (v : Byte) (h : g.Pairwise (fun c d => c.1 < d.1)) :
    (Memory.put g a v).Pairwise (fun c d => c.1 < d.1) := by
  induction g with
  | nil => unfold Memory.put; split <;> simp
  | cons d rest ih =>
    obtain ⟨h1, h2⟩ := List.pairwise_cons.1 h
    unfold Memory.put
    split
    · rename_i hlt
      split
      · exact h
      · refine List.pairwise_cons.2 ⟨?_, h⟩
        intro c hc
        rcases List.mem_cons.1 hc with rfl | hc
        · exact hlt
        · exact hlt.trans (h1 c hc)
    · rename_i hlt
      split
      · rename_i heq
        subst heq
        split
        · exact h2
        · exact List.pairwise_cons.2 ⟨h1, h2⟩
      · rename_i hne
        refine List.pairwise_cons.2 ⟨?_, ih h2⟩
        intro c hc
        rcases mem_put hc with hc | ⟨rfl, -⟩
        · exact h1 c hc
        · show d.1 < a
          omega

/-- An address before every listed one is unlisted. -/
theorem get_of_lt {g : Memory} {a : Nat} (h : ∀ c ∈ g, a < c.1) : Memory.get g a = Memory.unlisted := by
  induction g with
  | nil => rfl
  | cons d rest ih =>
    have hd : d.1 ≠ a := by have := h d (by simp); omega
    simpa [Memory.get, hd] using ih (fun c hc => h c (by simp [hc]))

/-- Reading after a write: the value at its address, the old content elsewhere. -/
theorem get_put {g : Memory} (a b : Nat) (v : Byte) (h : g.Pairwise (fun c d => c.1 < d.1)) :
    Memory.get (Memory.put g a v) b = if b = a then v else Memory.get g b := by
  induction g with
  | nil =>
    unfold Memory.put
    split <;> by_cases hb : b = a <;> simp_all [Memory.get, eq_comm]
  | cons d rest ih =>
    obtain ⟨h1, h2⟩ := List.pairwise_cons.1 h
    unfold Memory.put
    split
    · rename_i hlt
      have hun : Memory.get (d :: rest) a = Memory.unlisted := by
        refine get_of_lt ?_
        intro c hc
        rcases List.mem_cons.1 hc with rfl | hc
        · exact hlt
        · exact hlt.trans (h1 c hc)
      split
      · by_cases hb : b = a
        · subst hb; simp_all
        · simp [hb]
      · by_cases hb : b = a
        · simp [Memory.get, hb]
        · simp [Memory.get, hb, Ne.symm hb]
    · rename_i hlt
      split
      · rename_i heq
        subst heq
        have hun : Memory.get rest d.1 = Memory.unlisted := get_of_lt h1
        split
        · by_cases hb : b = d.1
          · subst hb; simp_all
          · simp [Memory.get, hb, Ne.symm hb]
        · by_cases hb : b = d.1
          · simp [Memory.get, hb]
          · simp [Memory.get, hb, Ne.symm hb]
      · rename_i hne
        by_cases hb : d.1 = b
        · have : b ≠ a := by omega
          simp [Memory.get, hb, this]
        · simp [Memory.get, hb, ih h2]

/-- A write of a cell of the grid keeps the canonical form. -/
theorem put_wf {g : Memory} {a : Nat} {v : Byte} (h : Memory.wf g = true) (ha : a < gridCells)
    (hv : v = Memory.unlisted ∨ v = 1) : Memory.wf (Memory.put g a v) = true := by
  rw [wf_iff] at h ⊢
  refine ⟨put_sorted a v h.1, ?_⟩
  intro c hc
  rcases mem_put hc with hc | ⟨rfl, hne⟩
  · exact h.2 c hc
  · exact ⟨ha, hv.resolve_left hne⟩

/-- The address of a cell of the grid is one of the grid's addresses. -/
theorem cellAddr_lt {x y : Nat} (hx : x < 264) (hy : y < 64) : cellAddr x y < gridCells := by
  simp only [cellAddr, gridCells, gridH, gridW]; omega

/-- Different cells have different addresses. -/
theorem cellAddr_inj {x y x' y' : Nat} (hy : y < 64) (hy' : y' < 64) :
    cellAddr x y = cellAddr x' y' ↔ x = x' ∧ y = y' := by
  simp only [cellAddr, gridH]; omega

/-- `PixWrite` keeps the canonical form. -/
theorem pixWrite_wf {g : Memory} {x y : Nat} (on : Bool) (h : Memory.wf g = true) (hx : x < 264) (hy : y < 64) :
    Memory.wf (pixWrite g x y on) = true := by
  refine put_wf h (cellAddr_lt hx hy) ?_
  cases on
  · exact .inl rfl
  · exact .inr rfl

/-- What every cell shows after a `PixWrite`. -/
theorem pixel_pixWrite {g : Memory} {x y x' y' : Nat} (on : Bool) (h : Memory.wf g = true) (hy : y < 64) (hy' : y' < 64) :
    pixel (pixWrite g x y on) x' y' = if x' = x ∧ y' = y then on else pixel g x' y' := by
  unfold pixel pixWrite
  rw [get_put _ _ _ ((wf_iff g).1 h).1]
  by_cases hc : x' = x ∧ y' = y
  · obtain ⟨rfl, rfl⟩ := hc
    cases on <;> simp [cellByte]
  · have : cellAddr x' y' ≠ cellAddr x y := fun he => hc ((cellAddr_inj hy' hy).1 he)
    simp [this, hc]

/-- An event that addresses no cell outside the grid. -/
def Event.inGrid (e : Event) : Prop :=
  match e with
  | .setPixel x _ _ => x.toNat < 264
  | .present => True
  | .record _ _ _ => True
  | .error _ _ => True

/-- An event inside the grid keeps the canonical form. -/
theorem applyEvent_wf {g : Memory} {e : Event} (h : Memory.wf g = true) (he : e.inGrid) :
    Memory.wf (applyEvent g e) = true := by
  cases e with
  | setPixel x y on => exact pixWrite_wf on h he y.isLt
  | present => exact h
  | record p d b => exact h
  | error c i => exact h

/-- Events inside the grid keep the canonical form. -/
theorem replay_wf {g : Memory} {evs : List Event} (h : Memory.wf g = true) (he : ∀ e ∈ evs, e.inGrid) :
    Memory.wf (replay g evs) = true := by
  induction evs generalizing g with
  | nil => exact h
  | cons e rest ih =>
    exact ih (applyEvent_wf h (he e (by simp))) (fun d hd => he d (by simp [hd]))

/-- Replaying is one event after another. -/
@[simp] theorem replay_nil (g : Memory) : replay g [] = g := rfl
@[simp] theorem replay_cons (g : Memory) (e : Event) (evs : List Event) :
    replay g (e :: evs) = replay (applyEvent g e) evs := rfl
theorem replay_append (g : Memory) (a b : List Event) : replay g (a ++ b) = replay (replay g a) b :=
  List.foldl_append

end Sys2Proof.Machine
end

