-- ==== Sys2Proof/Laws/State.lean ====
section
/-! SUPPORT. One lemma per field of State and named update of the state, each true by rfl (for `renderFrame`, after its
one case split). -/

namespace Sys2Proof.Machine

@[simp] theorem emitAll_state (evs : List Event) (s : State) : (emitAll evs s).state = s.state := rfl
@[simp] theorem emitAll_track (evs : List Event) (s : State) : (emitAll evs s).track = s.track := rfl
@[simp] theorem emitAll_candIdx (evs : List Event) (s : State) : (emitAll evs s).candIdx = s.candIdx := rfl
@[simp] theorem emitAll_refIdx (evs : List Event) (s : State) : (emitAll evs s).refIdx = s.refIdx := rfl
@[simp] theorem emitAll_cmd (evs : List Event) (s : State) : (emitAll evs s).cmd = s.cmd := rfl
@[simp] theorem emitAll_pay (evs : List Event) (s : State) : (emitAll evs s).pay = s.pay := rfl
@[simp] theorem emitAll_status (evs : List Event) (s : State) : (emitAll evs s).status = s.status := rfl
@[simp] theorem emitAll_grid (evs : List Event) (s : State) : (emitAll evs s).grid = replay s.grid evs := rfl
@[simp] theorem emitAll_chMask (evs : List Event) (s : State) : (emitAll evs s).chMask = s.chMask := rfl
@[simp] theorem emitAll_perNum (evs : List Event) (s : State) : (emitAll evs s).perNum = s.perNum := rfl
@[simp] theorem emitAll_perDen (evs : List Event) (s : State) : (emitAll evs s).perDen = s.perDen := rfl
@[simp] theorem emitAll_prev (evs : List Event) (s : State) : (emitAll evs s).prev = s.prev := rfl
@[simp] theorem emitAll_prevValid (evs : List Event) (s : State) : (emitAll evs s).prevValid = s.prevValid := rfl
@[simp] theorem emitAll_nextIdx (evs : List Event) (s : State) : (emitAll evs s).nextIdx = s.nextIdx := rfl
@[simp] theorem emitAll_eosSeen (evs : List Event) (s : State) : (emitAll evs s).eosSeen = s.eosSeen := rfl
@[simp] theorem emitAll_rst (evs : List Event) (s : State) : (emitAll evs s).rst = s.rst := rfl
@[simp] theorem emitAll_reqSel (evs : List Event) (s : State) : (emitAll evs s).reqSel = s.reqSel := rfl
@[simp] theorem emitAll_rspAlt (evs : List Event) (s : State) : (emitAll evs s).rspAlt = s.rspAlt := rfl
@[simp] theorem emitAll_rspIdx (evs : List Event) (s : State) : (emitAll evs s).rspIdx = s.rspIdx := rfl
@[simp] theorem emitAll_rspLv (evs : List Event) (s : State) : (emitAll evs s).rspLv = s.rspLv := rfl
@[simp] theorem emitAll_rsp (evs : List Event) (s : State) : (emitAll evs s).rsp = s.rsp := rfl
@[simp] theorem emitAll_events (evs : List Event) (s : State) : (emitAll evs s).events = s.events ++ evs := rfl
@[simp] theorem emitAll_portLevel (evs : List Event) (s : State) : (emitAll evs s).portLevel = s.portLevel := rfl
@[simp] theorem emitAll_minIdx (evs : List Event) (s : State) : (emitAll evs s).minIdx = s.minIdx := rfl
@[simp] theorem emitAll_inputs (evs : List Event) (s : State) : (emitAll evs s).inputs = s.inputs := rfl
@[simp] theorem emitAll_args (evs : List Event) (s : State) : (emitAll evs s).args = s.args := rfl
@[simp] theorem emitAll_ret (evs : List Event) (s : State) : (emitAll evs s).ret = s.ret := rfl
@[simp] theorem emitAll_freeCount (evs : List Event) (s : State) : (emitAll evs s).freeCount = s.freeCount := rfl

@[simp] theorem enterFindStart_state (s : State) : (enterFindStart s).state = .findStart := rfl
@[simp] theorem enterFindStart_track (s : State) : (enterFindStart s).track = s.track := rfl
@[simp] theorem enterFindStart_candIdx (s : State) : (enterFindStart s).candIdx = s.candIdx := rfl
@[simp] theorem enterFindStart_refIdx (s : State) : (enterFindStart s).refIdx = s.refIdx := rfl
@[simp] theorem enterFindStart_cmd (s : State) : (enterFindStart s).cmd = [] := rfl
@[simp] theorem enterFindStart_pay (s : State) : (enterFindStart s).pay = [] := rfl
@[simp] theorem enterFindStart_status (s : State) : (enterFindStart s).status = s.status := rfl
@[simp] theorem enterFindStart_grid (s : State) : (enterFindStart s).grid = s.grid := rfl
@[simp] theorem enterFindStart_chMask (s : State) : (enterFindStart s).chMask = s.chMask := rfl
@[simp] theorem enterFindStart_perNum (s : State) : (enterFindStart s).perNum = s.perNum := rfl
@[simp] theorem enterFindStart_perDen (s : State) : (enterFindStart s).perDen = s.perDen := rfl
@[simp] theorem enterFindStart_prev (s : State) : (enterFindStart s).prev = s.prev := rfl
@[simp] theorem enterFindStart_prevValid (s : State) : (enterFindStart s).prevValid = s.prevValid := rfl
@[simp] theorem enterFindStart_nextIdx (s : State) : (enterFindStart s).nextIdx = s.nextIdx := rfl
@[simp] theorem enterFindStart_eosSeen (s : State) : (enterFindStart s).eosSeen = s.eosSeen := rfl
@[simp] theorem enterFindStart_rst (s : State) : (enterFindStart s).rst = s.rst := rfl
@[simp] theorem enterFindStart_reqSel (s : State) : (enterFindStart s).reqSel = s.reqSel := rfl
@[simp] theorem enterFindStart_rspAlt (s : State) : (enterFindStart s).rspAlt = s.rspAlt := rfl
@[simp] theorem enterFindStart_rspIdx (s : State) : (enterFindStart s).rspIdx = s.rspIdx := rfl
@[simp] theorem enterFindStart_rspLv (s : State) : (enterFindStart s).rspLv = s.rspLv := rfl
@[simp] theorem enterFindStart_rsp (s : State) : (enterFindStart s).rsp = s.rsp := rfl
@[simp] theorem enterFindStart_events (s : State) : (enterFindStart s).events = s.events := rfl
@[simp] theorem enterFindStart_portLevel (s : State) : (enterFindStart s).portLevel = s.portLevel := rfl
@[simp] theorem enterFindStart_minIdx (s : State) : (enterFindStart s).minIdx = s.minIdx := rfl
@[simp] theorem enterFindStart_inputs (s : State) : (enterFindStart s).inputs = s.inputs := rfl
@[simp] theorem enterFindStart_args (s : State) : (enterFindStart s).args = s.args := rfl
@[simp] theorem enterFindStart_ret (s : State) : (enterFindStart s).ret = s.ret := rfl
@[simp] theorem enterFindStart_freeCount (s : State) : (enterFindStart s).freeCount = s.freeCount := rfl

@[simp] theorem enterHalted_state (s : State) : (enterHalted s).state = .halted := rfl
@[simp] theorem enterHalted_track (s : State) : (enterHalted s).track = s.track := rfl
@[simp] theorem enterHalted_candIdx (s : State) : (enterHalted s).candIdx = s.candIdx := rfl
@[simp] theorem enterHalted_refIdx (s : State) : (enterHalted s).refIdx = s.refIdx := rfl
@[simp] theorem enterHalted_cmd (s : State) : (enterHalted s).cmd = [] := rfl
@[simp] theorem enterHalted_pay (s : State) : (enterHalted s).pay = [] := rfl
@[simp] theorem enterHalted_status (s : State) : (enterHalted s).status = s.status := rfl
@[simp] theorem enterHalted_grid (s : State) : (enterHalted s).grid = s.grid := rfl
@[simp] theorem enterHalted_chMask (s : State) : (enterHalted s).chMask = s.chMask := rfl
@[simp] theorem enterHalted_perNum (s : State) : (enterHalted s).perNum = s.perNum := rfl
@[simp] theorem enterHalted_perDen (s : State) : (enterHalted s).perDen = s.perDen := rfl
@[simp] theorem enterHalted_prev (s : State) : (enterHalted s).prev = s.prev := rfl
@[simp] theorem enterHalted_prevValid (s : State) : (enterHalted s).prevValid = s.prevValid := rfl
@[simp] theorem enterHalted_nextIdx (s : State) : (enterHalted s).nextIdx = s.nextIdx := rfl
@[simp] theorem enterHalted_eosSeen (s : State) : (enterHalted s).eosSeen = s.eosSeen := rfl
@[simp] theorem enterHalted_rst (s : State) : (enterHalted s).rst = s.rst := rfl
@[simp] theorem enterHalted_reqSel (s : State) : (enterHalted s).reqSel = s.reqSel := rfl
@[simp] theorem enterHalted_rspAlt (s : State) : (enterHalted s).rspAlt = s.rspAlt := rfl
@[simp] theorem enterHalted_rspIdx (s : State) : (enterHalted s).rspIdx = s.rspIdx := rfl
@[simp] theorem enterHalted_rspLv (s : State) : (enterHalted s).rspLv = s.rspLv := rfl
@[simp] theorem enterHalted_rsp (s : State) : (enterHalted s).rsp = s.rsp := rfl
@[simp] theorem enterHalted_events (s : State) : (enterHalted s).events = s.events := rfl
@[simp] theorem enterHalted_portLevel (s : State) : (enterHalted s).portLevel = s.portLevel := rfl
@[simp] theorem enterHalted_minIdx (s : State) : (enterHalted s).minIdx = s.minIdx := rfl
@[simp] theorem enterHalted_inputs (s : State) : (enterHalted s).inputs = s.inputs := rfl
@[simp] theorem enterHalted_args (s : State) : (enterHalted s).args = s.args := rfl
@[simp] theorem enterHalted_ret (s : State) : (enterHalted s).ret = s.ret := rfl
@[simp] theorem enterHalted_freeCount (s : State) : (enterHalted s).freeCount = s.freeCount := rfl

@[simp] theorem reportUnknownPage_state (c : Byte) (s : State) : (reportUnknownPage c s).state = s.state := rfl
@[simp] theorem reportUnknownPage_track (c : Byte) (s : State) : (reportUnknownPage c s).track = s.track := rfl
@[simp] theorem reportUnknownPage_candIdx (c : Byte) (s : State) : (reportUnknownPage c s).candIdx = s.candIdx := rfl
@[simp] theorem reportUnknownPage_refIdx (c : Byte) (s : State) : (reportUnknownPage c s).refIdx = s.refIdx := rfl
@[simp] theorem reportUnknownPage_cmd (c : Byte) (s : State) : (reportUnknownPage c s).cmd = s.cmd := rfl
@[simp] theorem reportUnknownPage_pay (c : Byte) (s : State) : (reportUnknownPage c s).pay = s.pay := rfl
@[simp] theorem reportUnknownPage_status (c : Byte) (s : State) : (reportUnknownPage c s).status = s.status ||| 4 := rfl
@[simp] theorem reportUnknownPage_grid (c : Byte) (s : State) : (reportUnknownPage c s).grid = s.grid := rfl
@[simp] theorem reportUnknownPage_chMask (c : Byte) (s : State) : (reportUnknownPage c s).chMask = s.chMask := rfl
@[simp] theorem reportUnknownPage_perNum (c : Byte) (s : State) : (reportUnknownPage c s).perNum = s.perNum := rfl
@[simp] theorem reportUnknownPage_perDen (c : Byte) (s : State) : (reportUnknownPage c s).perDen = s.perDen := rfl
@[simp] theorem reportUnknownPage_prev (c : Byte) (s : State) : (reportUnknownPage c s).prev = s.prev := rfl
@[simp] theorem reportUnknownPage_prevValid (c : Byte) (s : State) : (reportUnknownPage c s).prevValid = s.prevValid := rfl
@[simp] theorem reportUnknownPage_nextIdx (c : Byte) (s : State) : (reportUnknownPage c s).nextIdx = s.nextIdx := rfl
@[simp] theorem reportUnknownPage_eosSeen (c : Byte) (s : State) : (reportUnknownPage c s).eosSeen = s.eosSeen := rfl
@[simp] theorem reportUnknownPage_rst (c : Byte) (s : State) : (reportUnknownPage c s).rst = s.rst := rfl
@[simp] theorem reportUnknownPage_reqSel (c : Byte) (s : State) : (reportUnknownPage c s).reqSel = s.reqSel := rfl
@[simp] theorem reportUnknownPage_rspAlt (c : Byte) (s : State) : (reportUnknownPage c s).rspAlt = s.rspAlt := rfl
@[simp] theorem reportUnknownPage_rspIdx (c : Byte) (s : State) : (reportUnknownPage c s).rspIdx = s.rspIdx := rfl
@[simp] theorem reportUnknownPage_rspLv (c : Byte) (s : State) : (reportUnknownPage c s).rspLv = s.rspLv := rfl
@[simp] theorem reportUnknownPage_rsp (c : Byte) (s : State) : (reportUnknownPage c s).rsp = s.rsp := rfl
@[simp] theorem reportUnknownPage_events (c : Byte) (s : State) : (reportUnknownPage c s).events = s.events ++ [.error 3 c] := rfl
@[simp] theorem reportUnknownPage_portLevel (c : Byte) (s : State) : (reportUnknownPage c s).portLevel = s.portLevel := rfl
@[simp] theorem reportUnknownPage_minIdx (c : Byte) (s : State) : (reportUnknownPage c s).minIdx = s.minIdx := rfl
@[simp] theorem reportUnknownPage_inputs (c : Byte) (s : State) : (reportUnknownPage c s).inputs = s.inputs := rfl
@[simp] theorem reportUnknownPage_args (c : Byte) (s : State) : (reportUnknownPage c s).args = s.args := rfl
@[simp] theorem reportUnknownPage_ret (c : Byte) (s : State) : (reportUnknownPage c s).ret = s.ret := rfl
@[simp] theorem reportUnknownPage_freeCount (c : Byte) (s : State) : (reportUnknownPage c s).freeCount = s.freeCount := rfl

@[simp] theorem consume_state (s : State) : (consume s).state = s.state := rfl
@[simp] theorem consume_track (s : State) : (consume s).track = s.track := rfl
@[simp] theorem consume_candIdx (s : State) : (consume s).candIdx = s.candIdx := rfl
@[simp] theorem consume_refIdx (s : State) : (consume s).refIdx = s.refIdx := rfl
@[simp] theorem consume_cmd (s : State) : (consume s).cmd = s.cmd := rfl
@[simp] theorem consume_pay (s : State) : (consume s).pay = s.pay := rfl
@[simp] theorem consume_status (s : State) : (consume s).status = s.status := rfl
@[simp] theorem consume_grid (s : State) : (consume s).grid = s.grid := rfl
@[simp] theorem consume_chMask (s : State) : (consume s).chMask = s.chMask := rfl
@[simp] theorem consume_perNum (s : State) : (consume s).perNum = s.perNum := rfl
@[simp] theorem consume_perDen (s : State) : (consume s).perDen = s.perDen := rfl
@[simp] theorem consume_prev (s : State) : (consume s).prev = s.prev := rfl
@[simp] theorem consume_prevValid (s : State) : (consume s).prevValid = s.prevValid := rfl
@[simp] theorem consume_nextIdx (s : State) : (consume s).nextIdx = s.nextIdx := rfl
@[simp] theorem consume_eosSeen (s : State) : (consume s).eosSeen = s.eosSeen := rfl
@[simp] theorem consume_rst (s : State) : (consume s).rst = s.rst := rfl
@[simp] theorem consume_reqSel (s : State) : (consume s).reqSel = s.reqSel := rfl
@[simp] theorem consume_rspAlt (s : State) : (consume s).rspAlt = s.rspAlt := rfl
@[simp] theorem consume_rspIdx (s : State) : (consume s).rspIdx = s.rspIdx := rfl
@[simp] theorem consume_rspLv (s : State) : (consume s).rspLv = s.rspLv := rfl
@[simp] theorem consume_rsp (s : State) : (consume s).rsp = none := rfl
@[simp] theorem consume_events (s : State) : (consume s).events = s.events := rfl
@[simp] theorem consume_portLevel (s : State) : (consume s).portLevel = s.portLevel := rfl
@[simp] theorem consume_minIdx (s : State) : (consume s).minIdx = s.minIdx := rfl
@[simp] theorem consume_inputs (s : State) : (consume s).inputs = s.inputs := rfl
@[simp] theorem consume_args (s : State) : (consume s).args = s.args := rfl
@[simp] theorem consume_ret (s : State) : (consume s).ret = s.ret := rfl
@[simp] theorem consume_freeCount (s : State) : (consume s).freeCount = s.freeCount := rfl

@[simp] theorem assertReset_state (s : State) : (assertReset s).state = s.state := rfl
@[simp] theorem assertReset_track (s : State) : (assertReset s).track = s.track := rfl
@[simp] theorem assertReset_candIdx (s : State) : (assertReset s).candIdx = s.candIdx := rfl
@[simp] theorem assertReset_refIdx (s : State) : (assertReset s).refIdx = s.refIdx := rfl
@[simp] theorem assertReset_cmd (s : State) : (assertReset s).cmd = s.cmd := rfl
@[simp] theorem assertReset_pay (s : State) : (assertReset s).pay = s.pay := rfl
@[simp] theorem assertReset_status (s : State) : (assertReset s).status = s.status := rfl
@[simp] theorem assertReset_grid (s : State) : (assertReset s).grid = s.grid := rfl
@[simp] theorem assertReset_chMask (s : State) : (assertReset s).chMask = s.chMask := rfl
@[simp] theorem assertReset_perNum (s : State) : (assertReset s).perNum = s.perNum := rfl
@[simp] theorem assertReset_perDen (s : State) : (assertReset s).perDen = s.perDen := rfl
@[simp] theorem assertReset_prev (s : State) : (assertReset s).prev = s.prev := rfl
@[simp] theorem assertReset_prevValid (s : State) : (assertReset s).prevValid = s.prevValid := rfl
@[simp] theorem assertReset_nextIdx (s : State) : (assertReset s).nextIdx = s.nextIdx := rfl
@[simp] theorem assertReset_eosSeen (s : State) : (assertReset s).eosSeen = s.eosSeen := rfl
@[simp] theorem assertReset_rst (s : State) : (assertReset s).rst = true := rfl
@[simp] theorem assertReset_reqSel (s : State) : (assertReset s).reqSel = 0 := rfl
@[simp] theorem assertReset_rspAlt (s : State) : (assertReset s).rspAlt = s.rspAlt := rfl
@[simp] theorem assertReset_rspIdx (s : State) : (assertReset s).rspIdx = s.rspIdx := rfl
@[simp] theorem assertReset_rspLv (s : State) : (assertReset s).rspLv = s.rspLv := rfl
@[simp] theorem assertReset_rsp (s : State) : (assertReset s).rsp = none := rfl
@[simp] theorem assertReset_events (s : State) : (assertReset s).events = s.events := rfl
@[simp] theorem assertReset_portLevel (s : State) : (assertReset s).portLevel = s.portLevel := rfl
@[simp] theorem assertReset_minIdx (s : State) : (assertReset s).minIdx = s.minIdx := rfl
@[simp] theorem assertReset_inputs (s : State) : (assertReset s).inputs = s.inputs := rfl
@[simp] theorem assertReset_args (s : State) : (assertReset s).args = s.args := rfl
@[simp] theorem assertReset_ret (s : State) : (assertReset s).ret = s.ret := rfl
@[simp] theorem assertReset_freeCount (s : State) : (assertReset s).freeCount = s.freeCount := rfl

@[simp] theorem acceptSample_state (lv : Levels) (s : State) : (acceptSample lv s).state = s.state := rfl
@[simp] theorem acceptSample_track (lv : Levels) (s : State) : (acceptSample lv s).track = s.track := rfl
@[simp] theorem acceptSample_candIdx (lv : Levels) (s : State) : (acceptSample lv s).candIdx = s.candIdx := rfl
@[simp] theorem acceptSample_refIdx (lv : Levels) (s : State) : (acceptSample lv s).refIdx = s.refIdx := rfl
@[simp] theorem acceptSample_cmd (lv : Levels) (s : State) : (acceptSample lv s).cmd = s.cmd := rfl
@[simp] theorem acceptSample_pay (lv : Levels) (s : State) : (acceptSample lv s).pay = s.pay := rfl
@[simp] theorem acceptSample_status (lv : Levels) (s : State) : (acceptSample lv s).status = s.status := rfl
@[simp] theorem acceptSample_grid (lv : Levels) (s : State) : (acceptSample lv s).grid = s.grid := rfl
@[simp] theorem acceptSample_chMask (lv : Levels) (s : State) : (acceptSample lv s).chMask = s.chMask := rfl
@[simp] theorem acceptSample_perNum (lv : Levels) (s : State) : (acceptSample lv s).perNum = s.perNum := rfl
@[simp] theorem acceptSample_perDen (lv : Levels) (s : State) : (acceptSample lv s).perDen = s.perDen := rfl
@[simp] theorem acceptSample_prev (lv : Levels) (s : State) : (acceptSample lv s).prev = lv := rfl
@[simp] theorem acceptSample_prevValid (lv : Levels) (s : State) : (acceptSample lv s).prevValid = true := rfl
@[simp] theorem acceptSample_nextIdx (lv : Levels) (s : State) : (acceptSample lv s).nextIdx = s.nextIdx + 1 := rfl
@[simp] theorem acceptSample_eosSeen (lv : Levels) (s : State) : (acceptSample lv s).eosSeen = s.eosSeen := rfl
@[simp] theorem acceptSample_rst (lv : Levels) (s : State) : (acceptSample lv s).rst = s.rst := rfl
@[simp] theorem acceptSample_reqSel (lv : Levels) (s : State) : (acceptSample lv s).reqSel = s.reqSel := rfl
@[simp] theorem acceptSample_rspAlt (lv : Levels) (s : State) : (acceptSample lv s).rspAlt = s.rspAlt := rfl
@[simp] theorem acceptSample_rspIdx (lv : Levels) (s : State) : (acceptSample lv s).rspIdx = s.rspIdx := rfl
@[simp] theorem acceptSample_rspLv (lv : Levels) (s : State) : (acceptSample lv s).rspLv = s.rspLv := rfl
@[simp] theorem acceptSample_rsp (lv : Levels) (s : State) : (acceptSample lv s).rsp = s.rsp := rfl
@[simp] theorem acceptSample_events (lv : Levels) (s : State) : (acceptSample lv s).events = s.events := rfl
@[simp] theorem acceptSample_portLevel (lv : Levels) (s : State) : (acceptSample lv s).portLevel = s.portLevel := rfl
@[simp] theorem acceptSample_minIdx (lv : Levels) (s : State) : (acceptSample lv s).minIdx = s.minIdx := rfl
@[simp] theorem acceptSample_inputs (lv : Levels) (s : State) : (acceptSample lv s).inputs = s.inputs := rfl
@[simp] theorem acceptSample_args (lv : Levels) (s : State) : (acceptSample lv s).args = s.args := rfl
@[simp] theorem acceptSample_ret (lv : Levels) (s : State) : (acceptSample lv s).ret = s.ret := rfl
@[simp] theorem acceptSample_freeCount (lv : Levels) (s : State) : (acceptSample lv s).freeCount = s.freeCount := rfl

@[simp] theorem drivePins_state (alt idx : Nat) (lv : Levels) (s : State) : (drivePins alt idx lv s).state = s.state := rfl
@[simp] theorem drivePins_track (alt idx : Nat) (lv : Levels) (s : State) : (drivePins alt idx lv s).track = s.track := rfl
@[simp] theorem drivePins_candIdx (alt idx : Nat) (lv : Levels) (s : State) : (drivePins alt idx lv s).candIdx = s.candIdx := rfl
@[simp] theorem drivePins_refIdx (alt idx : Nat) (lv : Levels) (s : State) : (drivePins alt idx lv s).refIdx = s.refIdx := rfl
@[simp] theorem drivePins_cmd (alt idx : Nat) (lv : Levels) (s : State) : (drivePins alt idx lv s).cmd = s.cmd := rfl
@[simp] theorem drivePins_pay (alt idx : Nat) (lv : Levels) (s : State) : (drivePins alt idx lv s).pay = s.pay := rfl
@[simp] theorem drivePins_status (alt idx : Nat) (lv : Levels) (s : State) : (drivePins alt idx lv s).status = s.status := rfl
@[simp] theorem drivePins_grid (alt idx : Nat) (lv : Levels) (s : State) : (drivePins alt idx lv s).grid = s.grid := rfl
@[simp] theorem drivePins_chMask (alt idx : Nat) (lv : Levels) (s : State) : (drivePins alt idx lv s).chMask = s.chMask := rfl
@[simp] theorem drivePins_perNum (alt idx : Nat) (lv : Levels) (s : State) : (drivePins alt idx lv s).perNum = s.perNum := rfl
@[simp] theorem drivePins_perDen (alt idx : Nat) (lv : Levels) (s : State) : (drivePins alt idx lv s).perDen = s.perDen := rfl
@[simp] theorem drivePins_prev (alt idx : Nat) (lv : Levels) (s : State) : (drivePins alt idx lv s).prev = s.prev := rfl
@[simp] theorem drivePins_prevValid (alt idx : Nat) (lv : Levels) (s : State) : (drivePins alt idx lv s).prevValid = s.prevValid := rfl
@[simp] theorem drivePins_nextIdx (alt idx : Nat) (lv : Levels) (s : State) : (drivePins alt idx lv s).nextIdx = s.nextIdx := rfl
@[simp] theorem drivePins_eosSeen (alt idx : Nat) (lv : Levels) (s : State) : (drivePins alt idx lv s).eosSeen = s.eosSeen := rfl
@[simp] theorem drivePins_rst (alt idx : Nat) (lv : Levels) (s : State) : (drivePins alt idx lv s).rst = s.rst := rfl
@[simp] theorem drivePins_reqSel (alt idx : Nat) (lv : Levels) (s : State) : (drivePins alt idx lv s).reqSel = s.reqSel := rfl
@[simp] theorem drivePins_rspAlt (alt idx : Nat) (lv : Levels) (s : State) : (drivePins alt idx lv s).rspAlt = BitVec.ofNat 1 alt := rfl
@[simp] theorem drivePins_rspIdx (alt idx : Nat) (lv : Levels) (s : State) : (drivePins alt idx lv s).rspIdx = idx := rfl
@[simp] theorem drivePins_rspLv (alt idx : Nat) (lv : Levels) (s : State) : (drivePins alt idx lv s).rspLv = lv := rfl
@[simp] theorem drivePins_rsp (alt idx : Nat) (lv : Levels) (s : State) : (drivePins alt idx lv s).rsp = s.rsp := rfl
@[simp] theorem drivePins_events (alt idx : Nat) (lv : Levels) (s : State) : (drivePins alt idx lv s).events = s.events := rfl
@[simp] theorem drivePins_portLevel (alt idx : Nat) (lv : Levels) (s : State) : (drivePins alt idx lv s).portLevel = s.portLevel := rfl
@[simp] theorem drivePins_minIdx (alt idx : Nat) (lv : Levels) (s : State) : (drivePins alt idx lv s).minIdx = s.minIdx := rfl
@[simp] theorem drivePins_inputs (alt idx : Nat) (lv : Levels) (s : State) : (drivePins alt idx lv s).inputs = s.inputs := rfl
@[simp] theorem drivePins_args (alt idx : Nat) (lv : Levels) (s : State) : (drivePins alt idx lv s).args = s.args := rfl
@[simp] theorem drivePins_ret (alt idx : Nat) (lv : Levels) (s : State) : (drivePins alt idx lv s).ret = s.ret := rfl
@[simp] theorem drivePins_freeCount (alt idx : Nat) (lv : Levels) (s : State) : (drivePins alt idx lv s).freeCount = s.freeCount := rfl

@[simp] theorem resetRegisters_state (s : State) : (resetRegisters s).state = .findStart := rfl
@[simp] theorem resetRegisters_track (s : State) : (resetRegisters s).track = Config.freeTrack s.freeCount := rfl
@[simp] theorem resetRegisters_candIdx (s : State) : (resetRegisters s).candIdx = Config.freeIndex (s.freeCount + 1) := rfl
@[simp] theorem resetRegisters_refIdx (s : State) : (resetRegisters s).refIdx = Config.freeIndex (s.freeCount + 2) := rfl
@[simp] theorem resetRegisters_cmd (s : State) : (resetRegisters s).cmd = [] := rfl
@[simp] theorem resetRegisters_pay (s : State) : (resetRegisters s).pay = [] := rfl
@[simp] theorem resetRegisters_status (s : State) : (resetRegisters s).status = 0 := rfl
@[simp] theorem resetRegisters_grid (s : State) : (resetRegisters s).grid = s.grid := rfl
@[simp] theorem resetRegisters_chMask (s : State) : (resetRegisters s).chMask = s.chMask := rfl
@[simp] theorem resetRegisters_perNum (s : State) : (resetRegisters s).perNum = s.perNum := rfl
@[simp] theorem resetRegisters_perDen (s : State) : (resetRegisters s).perDen = s.perDen := rfl
@[simp] theorem resetRegisters_prev (s : State) : (resetRegisters s).prev = Config.freeLevels (s.freeCount + 3) := rfl
@[simp] theorem resetRegisters_prevValid (s : State) : (resetRegisters s).prevValid = false := rfl
@[simp] theorem resetRegisters_nextIdx (s : State) : (resetRegisters s).nextIdx = 0 := rfl
@[simp] theorem resetRegisters_eosSeen (s : State) : (resetRegisters s).eosSeen = false := rfl
@[simp] theorem resetRegisters_rst (s : State) : (resetRegisters s).rst = false := rfl
@[simp] theorem resetRegisters_reqSel (s : State) : (resetRegisters s).reqSel = s.reqSel := rfl
@[simp] theorem resetRegisters_rspAlt (s : State) : (resetRegisters s).rspAlt = s.rspAlt := rfl
@[simp] theorem resetRegisters_rspIdx (s : State) : (resetRegisters s).rspIdx = s.rspIdx := rfl
@[simp] theorem resetRegisters_rspLv (s : State) : (resetRegisters s).rspLv = s.rspLv := rfl
@[simp] theorem resetRegisters_rsp (s : State) : (resetRegisters s).rsp = none := rfl
@[simp] theorem resetRegisters_events (s : State) : (resetRegisters s).events = s.events := rfl
@[simp] theorem resetRegisters_portLevel (s : State) : (resetRegisters s).portLevel = s.portLevel := rfl
@[simp] theorem resetRegisters_minIdx (s : State) : (resetRegisters s).minIdx = 0 := rfl
@[simp] theorem resetRegisters_inputs (s : State) : (resetRegisters s).inputs = s.inputs := rfl
@[simp] theorem resetRegisters_args (s : State) : (resetRegisters s).args = s.args := rfl
@[simp] theorem resetRegisters_ret (s : State) : (resetRegisters s).ret = s.ret := rfl
@[simp] theorem resetRegisters_freeCount (s : State) : (resetRegisters s).freeCount = s.freeCount + 4 := rfl

@[simp] theorem renderFrame_state (c : Byte) (p : List Byte) (b : Bool) (s : State) : (renderFrame c p b s).state = s.state := by
  unfold renderFrame; split <;> rfl
@[simp] theorem renderFrame_track (c : Byte) (p : List Byte) (b : Bool) (s : State) : (renderFrame c p b s).track = s.track := by
  unfold renderFrame; split <;> rfl
@[simp] theorem renderFrame_candIdx (c : Byte) (p : List Byte) (b : Bool) (s : State) : (renderFrame c p b s).candIdx = s.candIdx := by
  unfold renderFrame; split <;> rfl
@[simp] theorem renderFrame_refIdx (c : Byte) (p : List Byte) (b : Bool) (s : State) : (renderFrame c p b s).refIdx = s.refIdx := by
  unfold renderFrame; split <;> rfl
@[simp] theorem renderFrame_cmd (c : Byte) (p : List Byte) (b : Bool) (s : State) : (renderFrame c p b s).cmd = s.cmd := by
  unfold renderFrame; split <;> rfl
@[simp] theorem renderFrame_pay (c : Byte) (p : List Byte) (b : Bool) (s : State) : (renderFrame c p b s).pay = s.pay := by
  unfold renderFrame; split <;> rfl
@[simp] theorem renderFrame_chMask (c : Byte) (p : List Byte) (b : Bool) (s : State) : (renderFrame c p b s).chMask = s.chMask := by
  unfold renderFrame; split <;> rfl
@[simp] theorem renderFrame_perNum (c : Byte) (p : List Byte) (b : Bool) (s : State) : (renderFrame c p b s).perNum = s.perNum := by
  unfold renderFrame; split <;> rfl
@[simp] theorem renderFrame_perDen (c : Byte) (p : List Byte) (b : Bool) (s : State) : (renderFrame c p b s).perDen = s.perDen := by
  unfold renderFrame; split <;> rfl
@[simp] theorem renderFrame_prev (c : Byte) (p : List Byte) (b : Bool) (s : State) : (renderFrame c p b s).prev = s.prev := by
  unfold renderFrame; split <;> rfl
@[simp] theorem renderFrame_prevValid (c : Byte) (p : List Byte) (b : Bool) (s : State) : (renderFrame c p b s).prevValid = s.prevValid := by
  unfold renderFrame; split <;> rfl
@[simp] theorem renderFrame_nextIdx (c : Byte) (p : List Byte) (b : Bool) (s : State) : (renderFrame c p b s).nextIdx = s.nextIdx := by
  unfold renderFrame; split <;> rfl
@[simp] theorem renderFrame_eosSeen (c : Byte) (p : List Byte) (b : Bool) (s : State) : (renderFrame c p b s).eosSeen = s.eosSeen := by
  unfold renderFrame; split <;> rfl
@[simp] theorem renderFrame_rst (c : Byte) (p : List Byte) (b : Bool) (s : State) : (renderFrame c p b s).rst = s.rst := by
  unfold renderFrame; split <;> rfl
@[simp] theorem renderFrame_reqSel (c : Byte) (p : List Byte) (b : Bool) (s : State) : (renderFrame c p b s).reqSel = s.reqSel := by
  unfold renderFrame; split <;> rfl
@[simp] theorem renderFrame_rspAlt (c : Byte) (p : List Byte) (b : Bool) (s : State) : (renderFrame c p b s).rspAlt = s.rspAlt := by
  unfold renderFrame; split <;> rfl
@[simp] theorem renderFrame_rspIdx (c : Byte) (p : List Byte) (b : Bool) (s : State) : (renderFrame c p b s).rspIdx = s.rspIdx := by
  unfold renderFrame; split <;> rfl
@[simp] theorem renderFrame_rspLv (c : Byte) (p : List Byte) (b : Bool) (s : State) : (renderFrame c p b s).rspLv = s.rspLv := by
  unfold renderFrame; split <;> rfl
@[simp] theorem renderFrame_rsp (c : Byte) (p : List Byte) (b : Bool) (s : State) : (renderFrame c p b s).rsp = s.rsp := by
  unfold renderFrame; split <;> rfl
@[simp] theorem renderFrame_portLevel (c : Byte) (p : List Byte) (b : Bool) (s : State) : (renderFrame c p b s).portLevel = s.portLevel := by
  unfold renderFrame; split <;> rfl
@[simp] theorem renderFrame_minIdx (c : Byte) (p : List Byte) (b : Bool) (s : State) : (renderFrame c p b s).minIdx = s.minIdx := by
  unfold renderFrame; split <;> rfl
@[simp] theorem renderFrame_inputs (c : Byte) (p : List Byte) (b : Bool) (s : State) : (renderFrame c p b s).inputs = s.inputs := by
  unfold renderFrame; split <;> rfl
@[simp] theorem renderFrame_args (c : Byte) (p : List Byte) (b : Bool) (s : State) : (renderFrame c p b s).args = s.args := by
  unfold renderFrame; split <;> rfl
@[simp] theorem renderFrame_ret (c : Byte) (p : List Byte) (b : Bool) (s : State) : (renderFrame c p b s).ret = s.ret := by
  unfold renderFrame; split <;> rfl
@[simp] theorem renderFrame_freeCount (c : Byte) (p : List Byte) (b : Bool) (s : State) : (renderFrame c p b s).freeCount = s.freeCount := by
  unfold renderFrame; split <;> rfl

/-- The four errors, each as the update it is (R161 to R164). -/
@[simp] theorem raiseError_channelConfiguration (c : Byte) (s : State) :
    raiseError .channelConfiguration c s = { s with status := s.status ||| 1, cmd := [], pay := [], state := .halted } := rfl
@[simp] theorem raiseError_timingRejection (c : Byte) (s : State) :
    raiseError .timingRejection c s = { s with cmd := [], pay := [], state := .findStart } := rfl
@[simp] theorem raiseError_unknownPageCode (c : Byte) (s : State) :
    raiseError .unknownPageCode c s =
      { s with status := s.status ||| 4, events := s.events ++ [.error 3 c], cmd := [], pay := [], state := .findStart } := rfl
@[simp] theorem raiseError_streamEnded (c : Byte) (s : State) :
    raiseError .streamEnded c s = { s with status := s.status ||| 2, cmd := [], pay := [], state := .halted } := rfl

end Sys2Proof.Machine
end

