-- ==== Sys2Proof/Laws/Ops.lean ====
section
/-! SUPPORT. For each shared operation and each meaning, once, everything it can answer as a next state. -/

namespace Sys2Proof.Machine

/-! ### Shared operations -/

/-- Issuing a request answers only in its own state, and then only drives the port. -/
theorem issueRequest_next {c : BitVec 2} {s t : State} (h : issueRequest c s = .next t) :
    s.request = c ∧ t = { s with reqSel := c } := by
  unfold issueRequest at h
  split at h
  · rename_i hc
    exact ⟨hc, by cases h; rfl⟩
  · cases h

/-- A 2-bit code is one of four. -/
theorem two_bit_cases (c : BitVec 2) : c = 0 ∨ c = 1 ∨ c = 2 ∨ c = 3 := by
  revert c; decide

/-- CORE can always issue the wait of its state, and that only drives the port. -/
theorem exec_waitInstr (s : State) : exec (waitInstr s) s = .next { s with reqSel := s.request } := by
  rcases two_bit_cases s.request with h | h | h | h <;>
    simp [waitInstr, exec, h, execReqNone, execReqStart, execReqClk1, execReqClk2, issueRequest]

/-- What a step can do when it answers a next state: fetching ended it, or one operation ran and the wait was issued. -/
theorem step_next {s t : State} (h : step s = .next t) :
    fetch s = .done (.next t) ∨
      ∃ i u v, fetch s = .run i u ∧ exec i u = .next v ∧ t = { v with reqSel := v.request } := by
  unfold step at h
  split at h
  · rename_i o hf
    exact .inl (by rw [hf, h])
  · rename_i i u hf
    refine .inr ⟨i, u, ?_⟩
    cases hv : exec i u with
    | next v =>
      rw [hv] at h
      simp only [issueWait, exec_waitInstr] at h
      exact ⟨v, hf, rfl, by cases h; rfl⟩
    | fault f => rw [hv] at h; cases h
    | refused r => rw [hv] at h; cases h

/-- Every transition key decodes while the state code is one of the five. -/
theorem decodeTk_ok (k : Key) (h : k.toNat / 32 ≤ 4) : ∃ i, decodeTk k = .ok i := by
  have : ∀ k : Key, k.toNat / 32 ≤ 4 → (decodeTk k).isOk = true := by decide
  have hk := this k h
  cases hd : decodeTk k with
  | ok i => exact ⟨i, rfl⟩
  | error e => rw [hd] at hk; cases hk

/-- The events of one column lie inside the grid. -/
theorem columnEvents_inGrid {page : BitVec 3} {off i : Nat} {v : Byte} (h : i + off < 264) :
    ∀ e ∈ columnEvents page off i v, e.inGrid := by
  intro e he
  simp only [columnEvents, List.mem_map] at he
  obtain ⟨r, -, rfl⟩ := he
  show (BitVec.ofNat 9 (i + off)).toNat < 264
  rw [BitVec.toNat_ofNat, Nat.mod_eq_of_lt (by omega)]
  exact h

/-- The events of a payload lie inside the grid when its columns do. -/
theorem payloadEvents_inGrid {page : BitVec 3} {off i : Nat} {pay : List Byte} (h : i + pay.length + off ≤ 264) :
    ∀ e ∈ payloadEvents page off i pay, e.inGrid := by
  induction pay generalizing i with
  | nil => simp [payloadEvents]
  | cons v rest ih =>
    intro e he
    simp only [payloadEvents, List.mem_append] at he
    simp only [List.length_cons] at h
    rcases he with he | he
    · exact columnEvents_inGrid (by omega) e he
    · exact ih (by omega) e he

/-- The column offset is 0 or 132. -/
theorem columnOffset_le (d : Device) : columnOffset d ≤ 132 := by cases d <;> decide

/-- The events of a render of 132 bytes lie inside the grid (R48). -/
theorem renderEvents_inGrid {page : BitVec 3} {sel : Bool} {pay : List Byte} (h : pay.length = 132) :
    ∀ e ∈ renderEvents page sel pay, e.inGrid := by
  intro e he
  have hoff := columnOffset_le (deviceOf sel)
  simp only [renderEvents, recordEvents, emitRecord, List.mem_append, List.mem_singleton, if_true] at he
  rcases he with (he | rfl) | rfl
  · exact payloadEvents_inGrid (by omega) e he
  · trivial
  · trivial

/-- A render either draws the whole frame of a legal page or only reports the unknown one (R120, R126). -/
theorem renderFrame_cases (c : Byte) (pay : List Byte) (sel : Bool) (s : State) :
    (∃ p, pageOf c = some p ∧ renderFrame c pay sel s = emitAll (renderEvents p sel pay) s) ∨
      (pageOf c = none ∧ renderFrame c pay sel s = reportUnknownPage c s) := by
  unfold renderFrame
  cases h : pageOf c with
  | none => exact .inr ⟨rfl, rfl⟩
  | some p => exact .inl ⟨p, rfl, rfl⟩

/-! ### The transitions -/

theorem execFsA_next {s t : State} (h : execFsA s = .next t) :
    s.state = .findStart ∧ ∃ idx lv, s.rsp = some (.matched 0 idx lv) ∧
      t = { s with track := .cs2, candIdx := idx, state := .verifyStart, rsp := none } := by
  unfold execFsA at h
  split at h
  · rename_i alt idx lv hs hr
    split at h
    · rename_i ha
      subst ha
      cases h
      exact ⟨hs, idx, lv, hr, rfl⟩
    · cases h
  · cases h

theorem execFsB_next {s t : State} (h : execFsB s = .next t) :
    s.state = .findStart ∧ ∃ idx lv, s.rsp = some (.matched 1 idx lv) ∧
      t = { s with track := .cs1, candIdx := idx, state := .verifyStart, rsp := none } := by
  unfold execFsB at h
  split at h
  · rename_i alt idx lv hs hr
    split at h
    · rename_i ha
      subst ha
      cases h
      exact ⟨hs, idx, lv, hr, rfl⟩
    · cases h
  · cases h

theorem execVsAcc_next {s t : State} (h : execVsAcc s = .next t) :
    s.state = .verifyStart ∧ ∃ alt idx lv, s.rsp = some (.matched alt idx lv) ∧ s.candIdx < idx ∧
      s.startInTime idx = true ∧
      t = { s with cmd := [pack lv], refIdx := idx, state := .findNextStartClk, rsp := none } := by
  unfold execVsAcc at h
  split at h
  · rename_i alt idx lv hs hr
    split at h
    · cases h
    · split at h
      · rename_i hd ht
        cases h
        exact ⟨hs, alt, idx, lv, hr, by omega, ht, rfl⟩
      · cases h
  · cases h

theorem execVsRej_next {s t : State} (h : execVsRej s = .next t) :
    s.state = .verifyStart ∧ ∃ alt idx lv, s.rsp = some (.matched alt idx lv) ∧ s.candIdx < idx ∧
      s.startInTime idx = false ∧ t = { s with cmd := [], pay := [], state := .findStart, rsp := none } := by
  unfold execVsRej at h
  split at h
  · rename_i alt idx lv hs hr
    split at h
    · cases h
    · split at h
      · cases h
      · rename_i hd ht
        cases h
        exact ⟨hs, alt, idx, lv, hr, by omega, by simpa using ht, rfl⟩
  · cases h

theorem execNcAcc_next {s t : State} (h : execNcAcc s = .next t) :
    s.state = .findNextStartClk ∧ ∃ alt idx lv, s.rsp = some (.matched alt idx lv) ∧ s.refIdx < idx ∧
      s.clockInTime idx = true ∧ s.cmd.length ≠ 2 ∧
      t = { s with cmd := s.cmd ++ [pack lv], refIdx := idx, rsp := none } := by
  unfold execNcAcc at h
  split at h
  · rename_i alt idx lv hs hr
    split at h
    · cases h
    · split at h
      · rename_i hd ht
        cases h
        simp only [Bool.and_eq_true, decide_eq_true_eq] at ht
        exact ⟨hs, alt, idx, lv, hr, by omega, ht.1, ht.2, by rw [← hs]; rfl⟩
      · cases h
  · cases h

theorem execNcFin_next {s t : State} (h : execNcFin s = .next t) :
    s.state = .findNextStartClk ∧ ∃ alt idx lv, s.rsp = some (.matched alt idx lv) ∧ s.refIdx < idx ∧
      s.clockInTime idx = true ∧ s.cmd.length = 2 ∧
      t = { s with cmd := s.cmd ++ [pack lv], pay := [], state := .readData, rsp := none } := by
  unfold execNcFin at h
  split at h
  · rename_i alt idx lv hs hr
    split at h
    · cases h
    · split at h
      · rename_i hd ht
        cases h
        simp only [Bool.and_eq_true, decide_eq_true_eq] at ht
        exact ⟨hs, alt, idx, lv, hr, by omega, ht.1, ht.2, rfl⟩
      · cases h
  · cases h

theorem execNcRej_next {s t : State} (h : execNcRej s = .next t) :
    s.state = .findNextStartClk ∧ ∃ alt idx lv, s.rsp = some (.matched alt idx lv) ∧ s.refIdx < idx ∧
      s.clockInTime idx = false ∧ t = { s with cmd := [], pay := [], state := .findStart, rsp := none } := by
  unfold execNcRej at h
  split at h
  · rename_i alt idx lv hs hr
    split at h
    · cases h
    · split at h
      · cases h
      · rename_i hd ht
        cases h
        exact ⟨hs, alt, idx, lv, hr, by omega, by simpa using ht, rfl⟩
  · cases h

theorem execRdAcc_next {s t : State} (h : execRdAcc s = .next t) :
    s.state = .readData ∧ ∃ alt idx lv, s.rsp = some (.matched alt idx lv) ∧ s.pay.length ≠ 131 ∧
      t = { s with pay := s.pay ++ [pack lv], rsp := none } := by
  unfold execRdAcc at h
  split at h
  · rename_i alt idx lv hs hr
    split at h
    · rename_i hl
      cases h
      exact ⟨hs, alt, idx, lv, hr, hl, by rw [← hs]; rfl⟩
    · cases h
  · cases h

theorem execRdFin_next {s t : State} (h : execRdFin s = .next t) :
    s.state = .readData ∧ ∃ alt idx lv page, s.rsp = some (.matched alt idx lv) ∧ s.pay.length = 131 ∧
      pageOf s.cmd0 = some page ∧
      t = { s with grid := replay s.grid (renderEvents page (selector lv) (s.pay ++ [pack lv])),
                   events := s.events ++ renderEvents page (selector lv) (s.pay ++ [pack lv]),
                   cmd := [], pay := [], state := .findStart, rsp := none } := by
  unfold execRdFin at h
  split at h
  · rename_i alt idx lv hs hr
    split at h
    · rename_i hl
      simp only [Bool.and_eq_true, decide_eq_true_eq, Option.isSome_iff_exists] at hl
      obtain ⟨hlen, page, hp⟩ := hl
      cases h
      refine ⟨hs, alt, idx, lv, page, hr, hlen, hp, ?_⟩
      unfold renderFrame
      rw [hp]
      rfl
    · cases h
  · cases h

theorem execRdBad_next {s t : State} (h : execRdBad s = .next t) :
    s.state = .readData ∧ ∃ alt idx lv, s.rsp = some (.matched alt idx lv) ∧ s.pay.length = 131 ∧
      pageOf s.cmd0 = none ∧
      t = { s with status := s.status ||| 4, events := s.events ++ [.error 3 s.cmd0],
                   cmd := [], pay := [], state := .findStart, rsp := none } := by
  unfold execRdBad at h
  split at h
  · rename_i alt idx lv hs hr
    split at h
    · rename_i hl
      simp only [Bool.and_eq_true, decide_eq_true_eq, Option.isNone_iff_eq_none] at hl
      cases h
      exact ⟨hs, alt, idx, lv, hr, hl.1, hl.2, rfl⟩
    · cases h
  · cases h

theorem execEos_next {s t : State} (h : execEos s = .next t) :
    s.state ≠ .halted ∧ s.rsp = some .endOfStream ∧
      t = { s with status := s.status ||| 2, cmd := [], pay := [], state := .halted, rsp := none } := by
  unfold execEos at h
  split at h
  · cases h
  · rename_i hr hs
    cases h
    exact ⟨hs, hr, rfl⟩
  · cases h

theorem execHaltNop_next {s t : State} (h : execHaltNop s = .next t) :
    s.state = .halted ∧ t = { s with rsp := none } := by
  unfold execHaltNop at h
  split at h
  · rename_i hs
    cases h
    exact ⟨hs, rfl⟩
  · cases h

/-! ### Reset -/

theorem execRstOk_next {s t : State} (h : execRstOk s = .next t) :
    s.rst = true ∧ cfgOk s.chMask = true ∧ channelsComplete s.chMask = true ∧ 0 < s.perNum ∧ 0 < s.perDen ∧
      t = resetRegisters s := by
  unfold execRstOk at h
  split at h
  · rename_i h1
    split at h
    · rename_i h2
      split at h
      · cases h
      · rename_i h3
        cases h
        simp only [Bool.and_eq_true] at h1
        exact ⟨h1.1, h1.2, h2, by omega, by omega, rfl⟩
    · cases h
  · cases h

theorem execRstCfgerr_next {s t : State} (h : execRstCfgerr s = .next t) :
    s.rst = true ∧ cfgOk s.chMask = false ∧
      t = { resetRegisters s with status := 1, cmd := [], pay := [], state := .halted } := by
  unfold execRstCfgerr at h
  split at h
  · rename_i h1
    cases h
    simp only [Bool.and_eq_true, Bool.not_eq_true'] at h1
    refine ⟨h1.1, h1.2, ?_⟩
    have h0 : (0 : BitVec 3) ||| 1 = 1 := by decide
    simp only [raiseError_channelConfiguration, resetRegisters_status, h0]
  · cases h

/-! ### The renderer and the events -/

theorem execCol_next {v : Byte} {s t : State} (h : execCol v s = .next t) :
    (pageOf s.args.cmd.b0 = none ∧ t = reportUnknownPage s.args.cmd.b0 s) ∨
      ∃ p, pageOf s.args.cmd.b0 = some p ∧ s.args.colIdx < 132 ∧
        t = emitAll (columnEvents p (columnOffset (deviceOf s.args.sel)) s.args.colIdx v)
          { s with args := { s.args with colIdx := s.args.colIdx + 1 } } := by
  unfold execCol at h
  split at h
  · rename_i hp
    cases h
    exact .inl ⟨hp, rfl⟩
  · rename_i p hp
    split at h
    · rename_i hc
      cases h
      exact .inr ⟨p, hp, hc, rfl⟩
    · cases h

theorem execSetPixel_next {x : BitVec 9} {y : BitVec 6} {on : Bool} {s t : State} (h : execSetPixel x y on s = .next t) :
    x.toNat < 264 ∧ t = emitAll [.setPixel x y on] s := by
  unfold execSetPixel at h
  split at h
  · rename_i hx
    cases h
    exact ⟨hx, rfl⟩
  · cases h

theorem execError_next {code : BitVec 3} {info : Byte} {s t : State} (h : execError code info s = .next t) :
    (code = 3 ∧ t = emitAll [.error 3 info] s) ∨ (code ≠ 3 ∧ t = s) := by
  unfold execError at h
  split at h
  · rename_i hc
    subst hc
    cases h
    exact .inl ⟨rfl, rfl⟩
  · rename_i hc
    split at h
    · cases h
      exact .inr ⟨hc, rfl⟩
    · cases h

theorem execPageDecode_next {s t : State} (h : execPageDecode s = .next t) : ∃ r, t = { s with ret := r } := by
  unfold execPageDecode at h
  split at h <;> cases h <;> exact ⟨_, rfl⟩

/-! ### Interfaces and the classifier -/

theorem execRspMatch_next {s t : State} (h : execRspMatch s = .next t) :
    s.rst = false ∧ s.rsp = none ∧
      ((s.state = .halted ∧ t = { s with rsp := some (.matched s.rspAlt s.rspIdx s.rspLv) }) ∨
        (s.state ≠ .halted ∧ responseFits s.request s.rspAlt s.rspLv = true ∧ s.minIdx ≤ s.rspIdx ∧
          t = { s with rsp := some (.matched s.rspAlt s.rspIdx s.rspLv), minIdx := s.rspIdx + 1 })) := by
  unfold execRspMatch at h
  split at h
  · cases h
  · rename_i h1
    split at h
    · cases h
    · rename_i h2
      refine ⟨by simpa using h1, by simpa using h2, ?_⟩
      split at h
      · rename_i h3
        cases h
        exact .inl ⟨h3, rfl⟩
      · rename_i h3
        split at h
        · rename_i h4
          split at h
          · cases h
          · cases h
            exact .inr ⟨h3, h4, by omega, rfl⟩
        · cases h

theorem execRspEos_next {s t : State} (h : execRspEos s = .next t) :
    s.rst = false ∧ s.rsp = none ∧ t = { s with rsp := some .endOfStream } := by
  unfold execRspEos at h
  split at h
  · cases h
  · rename_i h1
    split at h
    · cases h
    · rename_i h2
      cases h
      exact ⟨by simpa using h1, by simpa using h2, rfl⟩

theorem execMatchPattern_next {s t : State} (h : execMatchPattern s = .next t) : ∃ r, t = { s with ret := r } := by
  unfold execMatchPattern at h
  split at h <;> cases h
  exact ⟨_, rfl⟩

theorem execTimedelta_next {s t : State} (h : execTimedelta s = .next t) : ∃ r, t = { s with ret := r } := by
  unfold execTimedelta at h
  split at h <;> cases h
  exact ⟨_, rfl⟩

theorem execClassifyStart_next {s t : State} (h : execClassifyStart s = .next t) : ∃ r, t = { s with ret := r } := by
  unfold execClassifyStart at h
  split at h <;> cases h
  exact ⟨_, rfl⟩

theorem execClassifyClockPeriod_next {s t : State} (h : execClassifyClockPeriod s = .next t) :
    ∃ r, t = { s with ret := r } := by
  unfold execClassifyClockPeriod at h
  split at h <;> cases h
  exact ⟨_, rfl⟩

/-! ### Fetching -/

/-- The selected operation runs on the state as it is, and its key decodes to it. -/
theorem selectOp_run {s u : State} {i : Instr} (h : selectOp s = .run i u) :
    u = s ∧ ∃ r, s.rsp = some r ∧ inDomain s r = true ∧ decode .tk (transitionKey s r).toNat = .ok i := by
  unfold selectOp at h
  split at h
  · cases h
  · rename_i r hr
    split at h
    · rename_i hd
      split at h
      · rename_i j hj
        cases h
        exact ⟨rfl, r, hr, hd, hj⟩
      · cases h
    · cases h

/-- With no response held there is nothing to select. -/
theorem selectOp_next {s t : State} (h : selectOp s = .done (.next t)) : s.rsp = none ∧ t = s := by
  unfold selectOp at h
  split at h
  · rename_i hr
    cases h
    exact ⟨hr, rfl⟩
  · split at h
    · split at h <;> cases h
    · cases h

end Sys2Proof.Machine
end

