-- ==== Sys2Proof/Laws/Operands.lean ====
section
/-! SUPPORT. For each computed operand, once, what it is; and what a fetched operation does to the step. -/

namespace Sys2Proof.Machine

/-- A legal page code gives its page. -/
theorem pageOf_of_legal {c : Byte} {page : BitVec 3} (h : c.toNat = 176 + page.toNat) : pageOf c = some page := by
  unfold pageOf pageBase nPages
  have := page.isLt
  rw [if_pos (by omega)]
  refine congrArg some (BitVec.eq_of_toNat_eq ?_)
  rw [BitVec.toNat_ofNat]; omega

/-- An illegal page code gives none. -/
theorem pageOf_of_illegal {c : Byte} (h : c.toNat < 176 ∨ 183 < c.toNat) : pageOf c = none := by
  unfold pageOf pageBase nPages
  rw [if_neg (by omega)]

/-- Whether a page code is legal, as a range. -/
theorem pageOf_isSome (c : Byte) : (pageOf c).isSome = decide (176 ≤ c.toNat ∧ c.toNat ≤ 183) := by
  unfold pageOf pageBase nPages
  split <;> simp <;> omega

/-- The DeviceSelector as the levels of the two chip selects. -/
theorem selector_eq (lv : Levels) : selector lv = (!lv.getLsbD 1 && lv.getLsbD 0) := by
  simp [selector, asserted, csActiveLevel, lvCs1, lvCs2]

/-- The byte on the data lines as bits 5 to 12 of the levels. -/
theorem pack_eq (lv : Levels) : pack lv = lv.extractLsb' 5 8 := rfl

/-- The start test on the numerator and the denominator. -/
theorem classifyStart_iff (q : Time) : Sys2Proof.Machine.classifyStart q = true ↔ q.num * 5 < 12 * q.den :=
  decide_eq_true_iff

/-- The period test on the numerator and the denominator. -/
theorem classifyClockPeriod_iff (q : Time) :
    Sys2Proof.Machine.classifyClockPeriod q = true ↔ 37 * q.den ≤ q.num * 10 ∧ q.num * 10 ≤ 42 * q.den := by
  rw [Sys2Proof.Machine.classifyClockPeriod, Bool.and_eq_true]
  exact and_congr decide_eq_true_iff decide_eq_true_iff

/-- A ceiling is below a number exactly when the dividend is below its multiple. -/
theorem ceilDiv_le {n d x : Nat} (hd : 0 < d) : ceilDiv n d ≤ x ↔ n ≤ x * d := by
  unfold ceilDiv
  rw [← Nat.lt_succ_iff, Nat.div_lt_iff_lt_mul hd, Nat.succ_mul]; omega

/-- The secondary device is offset by 132 columns. -/
theorem columnOffset_deviceOf (sel : Bool) : columnOffset (deviceOf sel) = if sel then 132 else 0 := by
  cases sel <;> rfl

/-- The four pattern sets. -/
@[simp] theorem patternSet_zero : patternSet 0 = [] := rfl
@[simp] theorem patternSet_one : patternSet 1 = [0x23, 0x1C] := rfl
@[simp] theorem patternSet_two : patternSet 2 = [0xC1] := rfl
@[simp] theorem patternSet_three : patternSet 3 = [0xC8] := rfl

/-- The operation that a fetch gives is the step, with the wait after it. -/
theorem step_of_run {s u : State} {i : Instr} (hf : fetch s = .run i u) : step s = issueWait (exec i u) := by
  unfold step; rw [hf]

/-- The wait after an operation drives the port and nothing else. -/
theorem issueWait_next (s : State) : issueWait (.next s) = .next { s with reqSel := s.request } := exec_waitInstr s

end Sys2Proof.Machine
end

