-- ==== Sys2Proof/Laws/PerInstr.lean ====
section
/-! SUPPORT. The families of lemmas with one member per operation. -/

namespace Sys2Proof.Laws

/-- The word of a well-formed operation fits its format. -/
def EncodeFits.Statement (i : Instr) : Prop := i.wellFormed = true → encode i < 2 ^ i.format.width

theorem EncodeFits.fsA : EncodeFits.Statement .fsA := fun _ => by decide
theorem EncodeFits.fsB : EncodeFits.Statement .fsB := fun _ => by decide
theorem EncodeFits.vsAcc : EncodeFits.Statement .vsAcc := fun _ => by decide
theorem EncodeFits.vsRej : EncodeFits.Statement .vsRej := fun _ => by decide
theorem EncodeFits.ncAcc : EncodeFits.Statement .ncAcc := fun _ => by decide
theorem EncodeFits.ncFin : EncodeFits.Statement .ncFin := fun _ => by decide
theorem EncodeFits.ncRej : EncodeFits.Statement .ncRej := fun _ => by decide
theorem EncodeFits.rdAcc : EncodeFits.Statement .rdAcc := fun _ => by decide
theorem EncodeFits.rdFin : EncodeFits.Statement .rdFin := fun _ => by decide
theorem EncodeFits.rdBad : EncodeFits.Statement .rdBad := fun _ => by decide
theorem EncodeFits.eos : EncodeFits.Statement .eos := fun _ => by decide
theorem EncodeFits.haltNop : EncodeFits.Statement .haltNop := fun _ => by decide
theorem EncodeFits.rstOk : EncodeFits.Statement .rstOk := fun _ => by decide
theorem EncodeFits.rstCfgerr : EncodeFits.Statement .rstCfgerr := fun _ => by decide
theorem EncodeFits.setpage (p : BitVec 3) (c a : Byte) : EncodeFits.Statement (.setpage p c a) := fun _ => BitVec.isLt _
theorem EncodeFits.col (v : Byte) : EncodeFits.Statement (.col v) := fun _ => BitVec.isLt _
theorem EncodeFits.reqNone : EncodeFits.Statement .reqNone := fun _ => by decide
theorem EncodeFits.reqStart : EncodeFits.Statement .reqStart := fun _ => by decide
theorem EncodeFits.reqClk1 : EncodeFits.Statement .reqClk1 := fun _ => by decide
theorem EncodeFits.reqClk2 : EncodeFits.Statement .reqClk2 := fun _ => by decide
theorem EncodeFits.rspMatch : EncodeFits.Statement .rspMatch := fun _ => by decide
theorem EncodeFits.rspEos : EncodeFits.Statement .rspEos := fun _ => by decide
theorem EncodeFits.setPixel (x : BitVec 9) (y : BitVec 6) (on : Bool) : EncodeFits.Statement (.setPixel x y on) := fun _ => BitVec.isLt _
theorem EncodeFits.present : EncodeFits.Statement .present := fun _ => by decide
theorem EncodeFits.record (page : BitVec 3) (device : Device) : EncodeFits.Statement (.record page device) := fun _ => BitVec.isLt _
theorem EncodeFits.error (code : BitVec 3) (info : Byte) : EncodeFits.Statement (.error code info) := fun _ => BitVec.isLt _
theorem EncodeFits.timedelta : EncodeFits.Statement .timedelta := fun _ => by decide
theorem EncodeFits.classifyStart : EncodeFits.Statement .classifyStart := fun _ => by decide
theorem EncodeFits.classifyClockPeriod : EncodeFits.Statement .classifyClockPeriod := fun _ => by decide
theorem EncodeFits.pack : EncodeFits.Statement .pack := fun _ => by decide
theorem EncodeFits.sel : EncodeFits.Statement .sel := fun _ => by decide
theorem EncodeFits.pageDecode : EncodeFits.Statement .pageDecode := fun _ => by decide
theorem EncodeFits.render : EncodeFits.Statement .render := fun _ => by decide
theorem EncodeFits.matchPattern : EncodeFits.Statement .matchPattern := fun _ => by decide

end Sys2Proof.Laws
end

