-- ==== Sys2Proof/Machine/Stimulus.lean ====
section
/-! DEFINITION. The stimulus notation of R80 to R82: statements and pseudo-instructions, and what they expand to. -/

namespace Sys2Proof.Machine

/-- The word of `SMP cs1 cs2 clk rw e dd` (R80). -/
def smpWord (cs1 cs2 clk rw e : Bool) (dd : Byte) : Levels :=
  dd ++ BitVec.ofBool e ++ BitVec.ofBool rw ++ BitVec.ofBool clk ++ BitVec.ofBool cs2 ++ BitVec.ofBool cs1

/-- A level-B statement `SMP` (R80). -/
def smp (cs1 cs2 clk rw e : Bool) (dd : Byte) : List Input := [.sample (smpWord cs1 cs2 clk rw e dd)]

/-- The level-B statement `EOS` (R80). -/
def eosMark : List Input := [.endMark]

/-- `REP n { … }` (R80). -/
def rep (n : Nat) (body : List Input) : List Input :=
  match n with
  | 0 => []
  | k + 1 => body ++ rep k body

/-- The level-A statement `M alt idx cs1 cs2 dd`; `clk` is 1 when the outstanding request is a clock pattern
and 0 when it is `PS_START` (R81). With no request outstanding (in HALTED, V-FSM-16), where the rule gives no level, it is
0 too (DESIGN CHOICE, unsafe, notes/assumptions/46.md). -/
def respond (req : BitVec 2) (alt : BitVec 1) (idx : Nat) (cs1 cs2 : Bool) (dd : Byte) : Input :=
  .response (.matched alt idx (smpWord cs1 cs2 (decide (req = 2 ∨ req = 3)) false false dd))

/-- The level-A statement `E` (R81). -/
def endResponse : Input := .response .endOfStream

/-- What the expander keeps: the current chip-select levels and data byte (R82). -/
structure Expander where
  ccs1 : Bool
  ccs2 : Bool
  cd : Byte
  deriving DecidableEq, Repr

/-- The pseudo-instructions (R82). -/
inductive Pseudo where
  | park1 (n : Nat)
  | park2 (n : Nat)
  | low (n : Nat)
  | ck (n : Nat) (dd : Byte)
  | cks (n : Nat) (dds : List Byte)
  deriving DecidableEq, Repr

/-- `CK n, dd` with the chip selects as they stand (R82). For `n` below 2, outside the rule's range, it is the one Sample
with clk 1 (DESIGN CHOICE, unsafe, notes/assumptions/45.md). -/
def expandCk (x : Expander) (n : Nat) (dd : Byte) : List Input :=
  rep (n - 1) (smp x.ccs1 x.ccs2 false false false dd) ++ smp x.ccs1 x.ccs2 true false false dd

/-- `CKS` is one `CK` after another (R82); with no byte, which the rule does not write, it is no Sample (DESIGN CHOICE,
unsafe, notes/assumptions/45.md). -/
def expandCks (x : Expander) (n : Nat) (dds : List Byte) : List Input :=
  match dds with
  | [] => []
  | dd :: rest => expandCk x n dd ++ expandCks x n rest

/-- The expansion of one pseudo-instruction, and what the expander keeps after it (R82). The operands outside the rule's
ranges (`PARK` with `n` 0, `CK` with `n` 0 or 1, `CKS` with no byte) have an expansion too, and what the expander keeps
before the first `PARK`, undefined in the rule, is the caller's argument (DESIGN CHOICE, unsafe,
notes/assumptions/45.md). -/
def expand (x : Expander) (p : Pseudo) : Expander × List Input :=
  match p with
  | .park1 n => (⟨false, true, 0⟩, rep n (smp false true false false false 0))
  | .park2 n => (⟨true, false, 0⟩, rep n (smp true false false false false 0))
  | .low n => (x, rep n (smp x.ccs1 x.ccs2 false false false x.cd))
  | .ck n dd => ({ x with cd := dd }, expandCk x n dd)
  | .cks n dds => ({ x with cd := dds.getLastD x.cd }, expandCks x n dds)

/-- The expansion of a list of pseudo-instructions (R82). -/
def expandAll (x : Expander) (ps : List Pseudo) : List Input :=
  match ps with
  | [] => []
  | p :: rest => (expand x p).2 ++ expandAll (expand x p).1 rest

end Sys2Proof.Machine
end

