-- ==== Sys2Proof/Tests/Slice0.lean ====
section
/-! SUPPORT. The model's own tests: ill-formed operations refused, a word of every operation written out from the
encoding tables, one-step examples from 95_test_vectors.md (the vector is named in each comment), and for each
statement with hypotheses a concrete state that meets them. -/

namespace Sys2Proof.Tests

open Sys2Proof Sys2Proof.Machine

/-! ### Well-formedness: each check refuses an ill-formed operation -/

theorem test_setPixel_x264_illFormed : (Instr.setPixel 264 0 true).wellFormed = false := by decide
theorem test_setPixel_x263_wellFormed : (Instr.setPixel 263 63 true).wellFormed = true := by decide
theorem test_error_code5_illFormed : (Instr.error 5 0).wellFormed = false := by decide
theorem test_error_code4_wellFormed : (Instr.error 4 0).wellFormed = true := by decide
theorem test_decode_x264_refused : decode .ev 0b00_100001000_000000_1 = .error .cellOutsideGrid := by decide
theorem test_decode_code5_refused : decode .ev 0b11_101_00000_01000000 = .error .unusedErrorCode := by decide
/-- R77: the bits 12:8 of an `ERROR` word are 0. -/
theorem test_decode_error_reserved_refused : decode .ev 0b11_011_00001_01000000 = .error .reservedBits := by decide
/-- R77: a `PRESENT` word has no other 1. -/
theorem test_decode_present_reserved_refused : decode .ev 0x10001 = .error .reservedBits := by decide
/-- R69: no row has state code 5. -/
theorem test_decode_key_a0_refused : decode .tk 0b101_00000 = .error .unusedStateCode := by decide
/-- V-EN-20, V-EN-21. -/
theorem test_decode_command_184_175_refused :
    decode .cmd 0xB80000 = .error .illegalCommand ∧ decode .cmd 0xAF0000 = .error .illegalCommand := by decide
theorem test_decode_too_wide : decode .req 4 = .error .tooWide := by decide

/-! ### Decoding: a word of every operation, written out from 30_encoding.md -/

/-- V-TK-1, V-TK-2; the bits c, l, p do not matter. -/
theorem test_decode_fs : decode .tk 0b00000000 = .ok .fsA ∧ decode .tk 0b00001111 = .ok .fsB := by decide
/-- V-TK-3, V-TK-4. -/
theorem test_decode_vs : decode .tk 0b00100100 = .ok .vsAcc ∧ decode .tk 0b00100000 = .ok .vsRej := by decide
/-- V-TK-5 to V-TK-8. -/
theorem test_decode_nc :
    decode .tk 0b01000100 = .ok .ncAcc ∧ decode .tk 0b01000110 = .ok .ncFin ∧
      decode .tk 0b01000000 = .ok .ncRej ∧ decode .tk 0b01000010 = .ok .ncRej := by decide
/-- V-TK-9 to V-TK-11. -/
theorem test_decode_rd :
    decode .tk 0b01100000 = .ok .rdAcc ∧ decode .tk 0b01100011 = .ok .rdFin ∧ decode .tk 0b01100010 = .ok .rdBad := by
  decide
/-- V-TK-12 to V-TK-17. -/
theorem test_decode_eos :
    decode .tk 0b00010000 = .ok .eos ∧ decode .tk 0b00110000 = .ok .eos ∧ decode .tk 0b01010000 = .ok .eos ∧
      decode .tk 0b01110000 = .ok .eos ∧ decode .tk 0b10000000 = .ok .haltNop ∧ decode .tk 0b10010000 = .ok .haltNop := by
  decide
theorem test_decode_rst : decode .rst 0b1 = .ok .rstOk ∧ decode .rst 0b0 = .ok .rstCfgerr := by decide
/-- V-EN-19. -/
theorem test_decode_setpage : decode .cmd 0b10110_011_00010010_00110100 = .ok (.setpage 3 0x12 0x34) := by decide
theorem test_decode_col : decode .col 0b10100101 = .ok (.col 0xA5) := by decide
/-- V-EN-15 to V-EN-18. -/
theorem test_decode_req :
    decode .req 0b00 = .ok .reqNone ∧ decode .req 0b01 = .ok .reqStart ∧ decode .req 0b10 = .ok .reqClk1 ∧
      decode .req 0b11 = .ok .reqClk2 := by decide
theorem test_decode_rsp : decode .rsp 0b0 = .ok .rspMatch ∧ decode .rsp 0b1 = .ok .rspEos := by decide
/-- V-EN-24, V-EN-25, V-EN-26. -/
theorem test_decode_setPixel :
    decode .ev 0b00_010000100_011111_1 = .ok (.setPixel 132 31 true) ∧
      decode .ev 0b00_010000100_111000_0 = .ok (.setPixel 132 56 false) ∧
      decode .ev 0x083FF = .ok (.setPixel 263 63 true) := by decide
/-- V-EN-27 to V-EN-31. -/
theorem test_decode_events :
    decode .ev 0b01_0000000000000000 = .ok .present ∧ decode .ev 0b10_111_1_000000000000 = .ok (.record 7 .secondary) ∧
      decode .ev 0b10_001_0_000000000000 = .ok (.record 1 .primary) ∧
      decode .ev 0b11_011_00000_01000000 = .ok (.error 3 0x40) := by decide
theorem test_decode_fn :
    decode .fn 0b000 = .ok .timedelta ∧ decode .fn 0b001 = .ok .classifyStart ∧
      decode .fn 0b010 = .ok .classifyClockPeriod ∧ decode .fn 0b011 = .ok .pack ∧ decode .fn 0b100 = .ok .sel ∧
      decode .fn 0b101 = .ok .pageDecode ∧ decode .fn 0b110 = .ok .render ∧ decode .fn 0b111 = .ok .matchPattern := by
  decide
/-- V-EN-1 to V-EN-7. -/
theorem test_smp_words :
    smpWord true false false false false 0 = 0x0001 ∧ smpWord false true true false false 0xB0 = 0x1606 ∧
      smpWord true false true false false 0xB7 = 0x16E5 ∧ smpWord false false false false false 1 = 0x0020 ∧
      smpWord true true true true true 0xFF = 0x1FFF ∧ smpWord false false false false false 0x80 = 0x1000 := by decide
/-- V-EN-24, V-EN-31, V-EN-32. -/
theorem test_port_words :
    eventWord (.setPixel 132 31 true) = 0x0423F ∧ eventWord (.error 3 0x40) = 0x36040 ∧
      (recBytes [0x81, 0x01, 0x80, 0xFF]).toNat = 0xFF800181 := by decide +kernel
/-- The expansion of `CK 3, B0` after `PARK1 1` (R82). -/
theorem test_expand_ck :
    expandAll ⟨true, false, 0⟩ [.park1 1, .ck 3 0xB0] =
      [.sample 0x0002, .sample 0x1602, .sample 0x1602, .sample 0x1606] := by decide

/-! ### Small states -/

/-- What an outcome's next state shows. -/
def after (o : Res) (f : State → Bool) : Bool :=
  match o with
  | .next t => f t
  | .fault _ => false
  | .refused _ => false

/-- The outcome is this fault. -/
def faulted (o : Res) (f : Fault) : Bool :=
  match o with
  | .next _ => false
  | .fault e => decide (e = f)
  | .refused _ => false

/-- The outcome is this refusal. -/
def refused (o : Res) (r : Refusal) : Bool :=
  match o with
  | .next _ => false
  | .fault _ => false
  | .refused e => decide (e = r)

/-- A level-A CORE in a given sequencing state with a response held. -/
def held (st : Fsm) (cmd pay : List Byte) (ref : Nat) (r : Response) : State :=
  { State.reset with portLevel := .levelA, state := st, candIdx := ref, refIdx := ref, cmd := cmd, pay := pay,
                     minIdx := 2000000, rsp := some r }

/-- A CORE called directly with given operands. -/
def called (args : Args) : State := { State.reset with args := args }

/-- The payload of 131 bytes that begins with `v`. -/
def pay131 (v : Byte) : List Byte := v :: List.replicate 130 0

/-- A level-B CORE with one item to take. -/
def oneItem (item : Input) : State := { State.reset with inputs := [item] }

/-! ### One step of each operation -/

/-- V-FSM-1, V-FSM-2. -/
theorem test_fs :
    after (step (held .findStart [] [] 0 (.matched 0 10 0x0001)))
      (fun t => decide (t.state = .verifyStart ∧ t.track = .cs2 ∧ t.candIdx = 10 ∧ t.reqSel = 3)) = true ∧
    after (step (held .findStart [] [] 0 (.matched 1 10 0x0002)))
      (fun t => decide (t.state = .verifyStart ∧ t.track = .cs1 ∧ t.candIdx = 10 ∧ t.reqSel = 2)) = true := by decide
/-- V-FSM-3, V-FSM-3c. -/
theorem test_vs_acc :
    after (step (held .verifyStart [] [] 10 (.matched 0 30 0x1606)))
      (fun t => decide (t.state = .findNextStartClk ∧ t.cmd = [176] ∧ t.refIdx = 30)) = true ∧
    after (step (held .verifyStart [] [] 10 (.matched 0 33 0x1606))) (fun t => decide (t.refIdx = 33)) = true := by decide
/-- V-FSM-4. -/
theorem test_vs_rej :
    after (step (held .verifyStart [] [] 10 (.matched 0 34 0x1606)))
      (fun t => decide (t.state = .findStart ∧ t.cmd = [] ∧ t.pay = [] ∧ t.status = 0 ∧ t.events = [])) = true := by decide
/-- V-FSM-5, V-FSM-5b. -/
theorem test_nc_acc :
    after (step (held .findNextStartClk [176] [] 30 (.matched 0 70 0x0206)))
      (fun t => decide (t.state = .findNextStartClk ∧ t.cmd = [176, 16] ∧ t.refIdx = 70)) = true ∧
    after (step (held .findNextStartClk [176] [] 30 (.matched 0 67 0x0206))) (fun t => decide (t.refIdx = 67)) = true := by
  decide
/-- V-FSM-6. -/
theorem test_nc_fin :
    after (step (held .findNextStartClk [176, 16] [] 70 (.matched 0 112 0x0006)))
      (fun t => decide (t.state = .readData ∧ t.cmd = [176, 16, 0] ∧ t.pay = [])) = true := by decide
/-- V-FSM-7, V-FSM-8. -/
theorem test_nc_rej :
    after (step (held .findNextStartClk [176] [] 30 (.matched 0 73 0x0206)))
      (fun t => decide (t.state = .findStart ∧ t.cmd = [])) = true ∧
    after (step (held .findNextStartClk [176, 16] [] 70 (.matched 0 106 0x0006)))
      (fun t => decide (t.state = .findStart ∧ t.cmd = [])) = true := by decide
/-- V-FSM-9, V-FSM-17. -/
theorem test_rd_acc :
    after (step (held .readData [176, 0, 0] (List.replicate 130 0) 0 (.matched 0 900 0x1FE6)))
      (fun t => decide (t.state = .readData ∧ t.pay.length = 131 ∧ t.pay.getLast? = some 0xFF ∧ t.events = [])) = true ∧
    after (step (held .readData [176, 0, 0] [1, 2, 3, 4, 5] 200 (.matched 0 1000000 0x0666)))
      (fun t => decide (t.pay = [1, 2, 3, 4, 5, 0x33])) = true := by decide +kernel
/-- V-FSM-11 with V-RN-1. -/
theorem test_rd_fin :
    after (step (held .readData [176, 0, 0] (pay131 0x81) 0 (.matched 0 901 0x0006)))
      (fun t => decide (t.state = .findStart ∧ t.cmd = [] ∧ t.pay = [] ∧ t.events.length = 1058) &&
        pixel t.grid 0 0 && !pixel t.grid 0 1 && !pixel t.grid 0 6 && pixel t.grid 0 7 && !pixel t.grid 132 0) = true := by
  decide +kernel
/-- V-RN-2: `sel` true moves the picture to the other half. -/
theorem test_rd_fin_secondary :
    after (step (held .readData [176, 0, 0] (pay131 0x81) 0 (.matched 0 901 0x0005)))
      (fun t => decide (t.events.getLast? = some (.record 0 .secondary (pay131 0x81 ++ [0]))) &&
        pixel t.grid 132 0 && pixel t.grid 132 7 && !pixel t.grid 0 0) = true := by decide +kernel
/-- V-FSM-12. -/
theorem test_rd_bad :
    after (step (held .readData [64, 0, 0] (pay131 0) 0 (.matched 0 901 0x0006)))
      (fun t => decide (t.state = .findStart ∧ t.status = 4 ∧ t.events = [.error 3 0x40] ∧ t.grid = [])) = true := by
  decide +kernel
/-- V-FSM-13, V-FSM-14. -/
theorem test_eos :
    after (step (held .readData [176, 0, 0] (pay131 0) 0 .endOfStream))
      (fun t => decide (t.state = .halted ∧ t.cmd = [] ∧ t.pay = [] ∧ t.status = 2 ∧ t.events = [])) = true ∧
    after (step (held .findStart [] [] 0 .endOfStream))
      (fun t => decide (t.state = .halted ∧ t.status = 2 ∧ t.reqSel = 0)) = true := by decide
/-- V-FSM-16. -/
theorem test_halt_nop :
    step { held .halted [] [] 0 .endOfStream with reqSel := 0 } =
      .next { held .halted [] [] 0 .endOfStream with reqSel := 0, rsp := none } := rfl
/-- V-RS-1, V-RS-2: the release with all channels, and with rw and e unassigned. -/
theorem test_rst_ok :
    after (step { State.reset with rst := true, status := 7, inputs := [.rstRelease 0x1FFF 1000 10000] })
      (fun t => decide (t.state = .findStart ∧ t.status = 0 ∧ t.reqSel = 1 ∧ t.events = [])) = true ∧
    after (step { State.reset with rst := true, inputs := [.rstRelease 0x1FE7 1 100000] })
      (fun t => decide (t.state = .findStart ∧ t.perNum = 1 ∧ t.perDen = 100000)) = true := by decide
/-- V-RS-3, V-RS-4. -/
theorem test_rst_cfgerr :
    after (step { State.reset with rst := true, inputs := [.rstRelease 0 1000 10000] })
      (fun t => decide (t.state = .halted ∧ t.status = 1 ∧ t.reqSel = 0 ∧ t.events = [])) = true ∧
    refused (step { State.reset with rst := true, inputs := [.rstRelease 1 1000 10000] }) .partialChannelMask = true := by decide
/-- V-RN-5: the column of 0xA5 at x = 5 in the band of page 3. -/
theorem test_col :
    after (exec (.col 0xA5) (called { Args.init with cmd := ⟨179, 0, 0⟩, colIdx := 5 }))
      (fun t => decide ((List.range 8).map (fun r => pixel t.grid 5 (24 + r)) =
        [true, false, true, false, false, true, false, true] ∧ t.args.colIdx = 6)) = true := by decide
/-- A frame has no column 132 (R47); an unknown page is only reported (V-RN-6). -/
theorem test_col_stops :
    faulted (exec (.col 0xA5) (called { Args.init with colIdx := 132 })) .columnOutsideFrame = true ∧
    after (exec (.col 0xA5) (called { Args.init with cmd := ⟨184, 0, 0⟩ }))
      (fun t => decide (t.events = [.error 3 184] ∧ t.grid = [])) = true := by decide
/-- V-RN-4: page 7 of the Command 183. -/
theorem test_setpage_pageDecode :
    after (exec (.setpage 7 0x12 0x34) State.reset)
      (fun t => decide (t.args.cmd = ⟨183, 0x12, 0x34⟩ ∧ t.ret = .page 7)) = true ∧
    after (exec .pageDecode (called { Args.init with cmd := ⟨183, 0, 0⟩ })) (fun t => decide (t.ret = .page 7)) = true := by
  decide
/-- V-RN-6: PAGE_DECODE and RENDER of a byte outside the set. -/
theorem test_unknown_page :
    after (exec .pageDecode (called { Args.init with cmd := ⟨175, 0, 0⟩ }))
      (fun t => decide (t.ret = .fails .unknownPageCode 175)) = true ∧
    after (exec .render (called { Args.init with cmd := ⟨255, 0, 0⟩ }))
      (fun t => decide (t.events = [.error 3 255] ∧ t.grid = [] ∧ t.status = 4)) = true := by decide
/-- V-RN-3: the far corner of the grid. -/
theorem test_render :
    after (exec .render (called { Args.init with cmd := ⟨183, 0, 0⟩, sel := true,
                                                 pay := (Vector.replicate 132 0).set 131 1 }))
      (fun t => decide (t.grid = [(263 * 64 + 63, 1)] ∧ t.events.length = 1058 ∧
        t.events[1056]? = some .present)) = true := by decide +kernel
/-- V-EN-15 to V-EN-18: the request of the present state, and no other. -/
theorem test_req :
    after (exec .reqStart State.reset) (fun t => decide (t.reqSel = 1)) = true ∧
    refused (exec .reqNone State.reset) .requestNotOfState = true ∧
    after (exec .reqClk2 { State.reset with state := .readData, track := .cs2 }) (fun t => decide (t.reqSel = 3)) = true ∧
    after (exec .reqClk1 { State.reset with state := .verifyStart }) (fun t => decide (t.reqSel = 2)) = true ∧
    after (exec .reqNone { State.reset with state := .halted }) (fun t => decide (t.reqSel = 0)) = true := by decide
/-- The first response of P3; one that cannot answer `PS_START` is refused (U7). -/
theorem test_rsp :
    after (exec .rspMatch { State.reset with rspIdx := 100, rspLv := 0x0001 })
      (fun t => decide (t.rsp = some (.matched 0 100 0x0001) ∧ t.minIdx = 101)) = true ∧
    refused (exec .rspMatch { State.reset with rspIdx := 100, rspLv := 0x0003 }) .responseNotOfRequest = true ∧
    after (exec .rspEos State.reset) (fun t => decide (t.rsp = some .endOfStream)) = true := by decide
/-- V-EN-23, V-EN-26: two pixels, and one outside the grid. -/
theorem test_setPixel :
    after (exec (.setPixel 0 7 true) State.reset) (fun t => decide (t.grid = [(7, 1)] ∧ t.events = [.setPixel 0 7 true])) = true ∧
    after (exec (.setPixel 263 63 false) { State.reset with grid := [(16895, 1)] }) (fun t => decide (t.grid = [])) = true ∧
    faulted (exec (.setPixel 264 0 true) State.reset) .cellOutsideGrid = true := by decide
theorem test_events :
    after (exec .present State.reset) (fun t => decide (t.events = [.present] ∧ t.grid = [])) = true ∧
    after (exec (.record 1 .primary) (called Args.init))
      (fun t => decide (t.events = [.record 1 .primary (List.replicate 132 0)])) = true ∧
    after (exec (.error 3 0x40) State.reset) (fun t => decide (t.events = [.error 3 0x40])) = true ∧
    after (exec (.error 4 7) State.reset) (fun t => decide (t = State.reset)) = true ∧
    refused (exec (.error 5 0) State.reset) .errorCodeUnused = true := by decide +kernel
/-- V-TC-2: 20 ticks of 0.1 ms are 2.0 ms. -/
theorem test_timedelta :
    after (exec .timedelta (called { Args.init with a := 5, b := 25 })) (fun t => decide (t.ret = .time ⟨20000, 10000⟩)) = true ∧
    refused (exec .timedelta (called { Args.init with a := 1 })) .indicesNotIncreasing = true := by decide
/-- V-TC-15. -/
theorem test_classifyStart :
    after (exec .classifyStart (called { Args.init with q := ⟨239999, 100000⟩ })) (fun t => decide (t.ret = .verdict true)) = true ∧
    after (exec .classifyStart (called { Args.init with q := ⟨240000, 100000⟩ })) (fun t => decide (t.ret = .verdict false)) = true := by
  decide
/-- V-TC-14. -/
theorem test_classifyClockPeriod :
    [369999, 370000, 420000, 420001].map (fun n => Sys2Proof.Machine.classifyClockPeriod ⟨n, 100000⟩) =
      [false, true, true, false] ∧
    after (exec .classifyClockPeriod (called { Args.init with q := ⟨42, 10⟩ })) (fun t => decide (t.ret = .verdict true)) = true := by
  decide
/-- V-TC-23, V-TC-26, V-TC-29, V-TC-30, V-TC-32. -/
theorem test_thresholds :
    (startLim 1000 1000, clkMinT 1000 1000, clkMaxT 1000 1000) = (3, 4, 4) ∧
    (startLim 1000 10000, clkMinT 1000 10000, clkMaxT 1000 10000) = (24, 37, 42) ∧
    (startLim 1000 24000000, clkMinT 1000 24000000, clkMaxT 1000 24000000) = (57600, 88800, 100800) ∧
    (startLim 9 10, clkMinT 9 10, clkMaxT 9 10) = (3, 5, 4) ∧
    (startLim 12 5, clkMinT 12 5, clkMaxT 12 5) = (1, 2, 1) := by decide
/-- V-EN-9, V-EN-10. -/
theorem test_pack :
    after (exec .pack (called { Args.init with lv := 0x1FE6 })) (fun t => decide (t.ret = .byte 0xFF)) = true ∧
    after (exec .pack (called { Args.init with lv := 0x0038 })) (fun t => decide (t.ret = .byte 1)) = true := by decide
/-- V-SEL-1, V-SEL-2, V-SEL-3, V-SEL-5. -/
theorem test_sel :
    [0x0001, 0x0000, 0x0002, 0x0003].map selector = [true, false, false, false] ∧
    after (exec .sel (called { Args.init with lv := 0x0005 })) (fun t => decide (t.ret = .verdict true)) = true := by decide
/-- S10: cs1 high, cs2 low, clk rising is the pattern 0xCA. -/
theorem test_matchPattern :
    after (exec .matchPattern { called { Args.init with pat := 0xCA, lv := 0x0005 } with prevValid := true, prev := 0x0003 })
      (fun t => decide (t.ret = .verdict true)) = true ∧
    after (exec .matchPattern (called { Args.init with pat := 0xCA, lv := 0x0005 }))
      (fun t => decide (t.ret = .verdict false)) = true ∧
    refused (exec .matchPattern (called { Args.init with pat := 5 })) .reservedPatternCode = true := by decide

/-! ### The front-end (V-FE) -/

/-- V-FE-3, its second Sample. -/
theorem test_frontEnd_handOver :
    after (step { oneItem (.sample 0x0002) with prev := 0x0001, prevValid := true, nextIdx := 1 })
      (fun t => decide (t.state = .verifyStart ∧ t.track = .cs1 ∧ t.candIdx = 1 ∧ t.nextIdx = 2 ∧ t.rsp = none)) = true := by
  decide
/-- V-FE-1, its first Sample; V-FE-9, an item after the end. -/
theorem test_frontEnd_noMatch :
    after (step (oneItem (.sample 0x0002))) (fun t => decide (t.state = .findStart ∧ t.nextIdx = 1 ∧ t.prevValid)) = true ∧
    after (step { oneItem (.sample 0x1606) with state := .halted, eosSeen := true })
      (fun t => decide (t.nextIdx = 0 ∧ t.inputs = [])) = true := by decide
/-- V-FE-9, the end. -/
theorem test_frontEnd_end :
    after (step { oneItem .endMark with state := .verifyStart })
      (fun t => decide (t.state = .halted ∧ t.status = 2 ∧ t.eosSeen)) = true := by decide

/-! ### The table's words -/

/-- Some words of the table, one a format, as the table gives them. -/
theorem test_decodeTableWord :
    decodeTableWord 8 0x63 = some .rdFin ∧ decodeTableWord 8 0 = some .fsA ∧ decodeTableWord 8 6 = some .render ∧
      decodeTableWord 8 0xA5 = some (.col 0xA5) ∧ decodeTableWord 24 0xB31234 = some (.setpage 3 0x12 0x34) ∧
      decodeTableWord 24 0x36040 = some (.error 3 0x40) ∧ decodeTableWord 2 1 = some .reqStart := by decide

/-- A placed word runs as the first operation after reset. -/
theorem test_withFetchWord :
    after (step (State.reset.withFetchWord 8 0x24)) (fun t => decide (t.state = .findNextStartClk ∧ t.cmd = [0])) = true ∧
    after (step (State.reset.withFetchWord 24 0x10000)) (fun t => decide (t.events = [.present])) = true ∧
    after (step (State.reset.withFetchWord 8 0x10)) (fun t => decide (t.state = .halted)) = true := by decide
/-! ### Witnesses: states that meet all hypotheses of a statement together, one for each clause -/

/-- A level-B CORE one Sample before the hand-over of V-FE-3. -/
def beforeHandOver : State := { oneItem (.sample 0x0002) with prev := 0x0001, prevValid := true, nextIdx := 1 }

/-- A CORE in reset with one item to take. -/
def inReset (item : Input) : State := { State.reset with rst := true, reqSel := 0, inputs := [item] }

/-- A level-A CORE with one item to take. -/
def oneItemA (item : Input) : State := { oneItem item with portLevel := .levelA }

theorem witness_StepKeepsInvariant : ∃ t, beforeHandOver.inv = true ∧ step beforeHandOver = .next t :=
  ⟨_, by decide, rfl⟩

theorem witness_StepRunsSelectedTransition :
    let s := held .verifyStart [] [] 10 (.matched 0 11 0x0FE6)
    s.rst = false ∧ s.rsp = some (.matched 0 11 0x0FE6) ∧ inDomain s (.matched 0 11 0x0FE6) = true ∧
      ∀ rest, s.inputs ≠ .rstAssert :: rest := ⟨rfl, rfl, rfl, nofun⟩

theorem witness_DeliveredSample_levelA :
    let s := oneItemA (.response (.matched 0 0 0x0001))
    s.rst = false ∧ s.rsp = none ∧ s.state ≠ .halted ∧ s.portLevel = .levelA ∧
      s.inputs = [.response (.matched 0 0 0x0001)] ∧ responseFits s.request 0 0x0001 = true ∧ s.minIdx ≤ 0 ∧
      inDomain s (.matched 0 0 0x0001) = true := by decide

theorem witness_DeliveredSample_levelB :
    let s := beforeHandOver
    s.rst = false ∧ s.rsp = none ∧ s.state ≠ .halted ∧ s.portLevel = .levelB ∧ s.inputs = [.sample 0x0002] ∧
      s.eosSeen = false ∧ firstMatch (patternSet s.request) s.prevValid s.prev 0x0002 = some (1 : BitVec 1).toNat ∧
      s.minIdx ≤ s.nextIdx ∧ inDomain s (.matched 1 s.nextIdx 0x0002) = true := by decide

/-- The end of stream at both levels, in a state with a candidate. -/
theorem witness_DeliveredSample_end :
    (let s := { oneItemA (.response .endOfStream) with state := .verifyStart }
     s.rst = false ∧ s.rsp = none ∧ s.state ≠ .halted ∧ s.portLevel = .levelA ∧
       s.inputs = [.response .endOfStream]) ∧
    (let s := { oneItem .endMark with state := .readData, cmd := [176, 0, 0], pay := [1] }
     s.rst = false ∧ s.rsp = none ∧ s.state ≠ .halted ∧ s.portLevel = .levelB ∧ s.inputs = [.endMark] ∧
       s.eosSeen = false) := by decide

/-- The clause of a next state, of a fault and of a refusal. -/
theorem witness_StepRunsCalledOperation :
    let a := { Args.init with colIdx := 132 }
    let s := oneItem (.call .ev 0x083FF a)
    let s' := oneItem (.call .col 0xA5 a)
    let s'' := oneItem (.call .req 0 a)
    (s.rst = false ∧ s.rsp = none ∧ s.inputs = [.call .ev 0x083FF a] ∧ (s.portLevel = .levelA ∨ Format.ev ≠ .rsp) ∧
      decode .ev 0x083FF = .ok (.setPixel 263 63 true) ∧
      ∃ u, exec (.setPixel 263 63 true) { s with inputs := [], args := a } = .next u) ∧
    (s'.rst = false ∧ s'.rsp = none ∧ s'.inputs = [.call .col 0xA5 a] ∧
      (s'.portLevel = .levelA ∨ Format.col ≠ .rsp) ∧ decode .col 0xA5 = .ok (.col 0xA5) ∧
      exec (.col 0xA5) { s' with inputs := [], args := a } = .fault .columnOutsideFrame) ∧
    (s''.rst = false ∧ s''.rsp = none ∧ s''.inputs = [.call .req 0 a] ∧
      (s''.portLevel = .levelA ∨ Format.req ≠ .rsp) ∧ decode .req 0 = .ok .reqNone ∧
      exec .reqNone { s'' with inputs := [], args := a } = .refused .requestNotOfState) :=
  ⟨⟨rfl, rfl, rfl, .inr nofun, rfl, _, rfl⟩, ⟨rfl, rfl, rfl, .inr nofun, rfl, rfl⟩,
    ⟨rfl, rfl, rfl, .inr nofun, rfl, rfl⟩⟩

/-- A release that starts, with no channel but those CORE reads, one with none at all, and one that lacks a channel. -/
theorem witness_StepRunsResetRelease :
    let s := inReset (.rstRelease 0x1FE7 1 1)
    let s' := inReset (.rstRelease 0 1 1)
    (s.rst = true ∧ s.inputs = [.rstRelease 0x1FE7 1 1] ∧
      ∃ u, exec .rstOk { s with inputs := [], chMask := 0x1FE7, perNum := 1, perDen := 1 } = .next u) ∧
    (s'.rst = true ∧ s'.inputs = [.rstRelease 0 1 1] ∧
      ∃ u, exec .rstCfgerr { s' with inputs := [], chMask := 0, perNum := 1, perDen := 1 } = .next u) ∧
    (let s'' := inReset (.rstRelease 0x1FE6 1 1)
     s''.rst = true ∧ s''.inputs = [.rstRelease 0x1FE6 1 1] ∧
      exec .rstOk { s'' with inputs := [], chMask := 0x1FE6, perNum := 1, perDen := 1 } =
        .refused .partialChannelMask) :=
  ⟨⟨rfl, rfl, _, rfl⟩, ⟨rfl, rfl, _, rfl⟩, ⟨rfl, rfl, rfl⟩⟩

theorem witness_ResetHoldsEverything :
    let s := inReset (.sample 0x0002)
    s.rst = true ∧ (∀ m n d rest, s.inputs ≠ .rstRelease m n d :: rest) ∧ ∀ rest, s.inputs ≠ .rstAssert :: rest :=
  ⟨rfl, nofun, nofun⟩

theorem witness_ResetAssertedFirst :
    let s := { held .readData [176, 0, 0] [] 0 .endOfStream with inputs := [.rstAssert] }
    s.rst = false ∧ s.inputs = .rstAssert :: [] := by decide

theorem witness_SuspendedWaitKeepsState : State.reset.rsp = none ∧ State.reset.inputs = [] := by decide

theorem witness_LevelBStreamNeverStops :
    (beforeHandOver.inv = true ∧ beforeHandOver.portLevel = .levelB ∧ beforeHandOver.inputs = [.sample 0x0002]) ∧
    ((oneItem .endMark).inv = true ∧ (oneItem .endMark).portLevel = .levelB ∧ (oneItem .endMark).inputs = [.endMark]) := by
  decide

/-- `DecodeOfEncode` and `EncodeOfDecode` at the last cell and the last error code. -/
theorem witness_encoding :
    (Instr.setPixel 263 63 true).wellFormed = true ∧ (Instr.error 4 0xFF).wellFormed = true ∧
      decode .ev 0x083FF = .ok (.setPixel 263 63 true) ∧ decode .tk 0x63 = .ok .rdFin := by decide

theorem witness_HandOverBeginsCandidate :
    (let s := held .findStart [] [] 0 (.matched 0 10 0x0001)
     s.state = .findStart ∧ s.rsp = some (.matched 0 10 0x0001)) ∧
    (let s := held .findStart [] [] 0 (.matched 1 10 0x0002)
     s.state = .findStart ∧ s.rsp = some (.matched 1 10 0x0002)) := by decide

/-- The first tick and the last one below 2.40 ms. -/
theorem witness_FirstClockInTimeAccepted :
    ∀ idx ∈ [11, 33], let s := held .verifyStart [] [] 10 (.matched 0 idx 0x1606)
      s.state = .verifyStart ∧ s.rsp = some (.matched 0 idx 0x1606) ∧ s.candIdx < idx ∧
        (idx - s.candIdx) * s.perNum * 5 < 12 * s.perDen := by decide

/-- Exactly 2.40 ms. -/
theorem witness_FirstClockTooLateRejected :
    let s := held .verifyStart [] [] 10 (.matched 0 34 0x1606)
    s.state = .verifyStart ∧ s.rsp = some (.matched 0 34 0x1606) ∧ s.candIdx < 34 ∧
      12 * s.perDen ≤ (34 - s.candIdx) * s.perNum * 5 := by decide

/-- Exactly 3.7 and exactly 4.2 ms. -/
theorem witness_SecondCommandByteAccepted :
    ∀ idx ∈ [67, 72], let s := held .findNextStartClk [176] [] 30 (.matched 0 idx 0x0206)
      s.state = .findNextStartClk ∧ s.rsp = some (.matched 0 idx 0x0206) ∧ s.refIdx < idx ∧ s.cmd.length = 1 ∧
        37 * s.perDen ≤ (idx - s.refIdx) * s.perNum * 10 ∧ (idx - s.refIdx) * s.perNum * 10 ≤ 42 * s.perDen := by decide

/-- Exactly 3.7 and exactly 4.2 ms. -/
theorem witness_ThirdCommandByteCompletes :
    ∀ idx ∈ [67, 72], let s := held .findNextStartClk [176, 16] [] 30 (.matched 0 idx 0x0006)
      s.state = .findNextStartClk ∧ s.rsp = some (.matched 0 idx 0x0006) ∧ s.refIdx < idx ∧ s.cmd.length = 2 ∧
        37 * s.perDen ≤ (idx - s.refIdx) * s.perNum * 10 ∧ (idx - s.refIdx) * s.perNum * 10 ≤ 42 * s.perDen := by decide

/-- 3.6 ms and 4.3 ms. -/
theorem witness_ClockOutOfWindowRejected :
    ∀ idx ∈ [66, 73], let s := held .findNextStartClk [176] [] 30 (.matched 0 idx 0x0206)
      s.state = .findNextStartClk ∧ s.rsp = some (.matched 0 idx 0x0206) ∧ s.refIdx < idx ∧
        ((idx - s.refIdx) * s.perNum * 10 < 37 * s.perDen ∨ 42 * s.perDen < (idx - s.refIdx) * s.perNum * 10) := by decide

/-- The last byte but one. -/
theorem witness_PayloadByteAppended :
    let s := held .readData [176, 0, 0] (List.replicate 130 0) 0 (.matched 0 900 0x1FE6)
    s.state = .readData ∧ s.rsp = some (.matched 0 900 0x1FE6) ∧ s.pay.length ≤ 130 := by decide +kernel

/-- `FullFrameRendered` and `FullFramePixels` on the first page in the first half and on the last page in the second. -/
theorem witness_FullFrame :
    (let s := held .readData [176, 0, 0] (pay131 0x81) 0 (.matched 0 901 0x0006)
     s.state = .readData ∧ s.rsp = some (.matched 0 901 0x0006) ∧ s.pay.length = 131 ∧
       s.cmd0.toNat = 176 + (0 : BitVec 3).toNat ∧ Memory.wf s.grid = true) ∧
    (let s := { held .readData [183, 0, 0] (pay131 0x81) 0 (.matched 0 901 0x0005) with grid := [(16895, 1)] }
     s.state = .readData ∧ s.rsp = some (.matched 0 901 0x0005) ∧ s.pay.length = 131 ∧
       s.cmd0.toNat = 176 + (7 : BitVec 3).toNat ∧ Memory.wf s.grid = true) := by decide +kernel

/-- The bytes just below and just above the page codes. -/
theorem witness_UnknownPageReported :
    ∀ c ∈ [(175 : Byte), 184], let s := held .readData [c, 0, 0] (pay131 0) 0 (.matched 0 901 0x0006)
      s.state = .readData ∧ s.rsp = some (.matched 0 901 0x0006) ∧ s.pay.length = 131 ∧
        (s.cmd0.toNat < 176 ∨ 183 < s.cmd0.toNat) := by decide +kernel

theorem witness_EndOfStreamHalts :
    let s := held .readData [176, 0, 0] [1] 0 .endOfStream
    s.state ≠ .halted ∧ s.rsp = some .endOfStream := by decide

theorem witness_HaltedIgnoresResponse :
    (let s := held .halted [] [] 0 (.matched 0 5 0)
     s.state = .halted ∧ s.rsp = some (.matched 0 5 0)) ∧
    (∀ r ∈ [Response.matched 0 5 0, .endOfStream], let s := { oneItemA (.response r) with state := .halted }
     s.state = .halted ∧ s.rst = false ∧ s.rsp = none ∧ s.portLevel = .levelA ∧ s.inputs = [.response r]) := by decide

theorem witness_OnlyResetLeavesHalted :
    let s := held .halted [] [] 0 .endOfStream
    ∃ t, s.state = .halted ∧ s.rst = false ∧ step s = .next t := ⟨_, rfl, rfl, rfl⟩

theorem witness_StatusBitsSticky :
    let s := held .findStart [] [] 0 .endOfStream
    ∃ t, s.rst = false ∧ step s = .next t := ⟨_, rfl, rfl⟩

/-- Two states that differ in the second and third command byte, one payload byte before the render. -/
theorem witness_CommandTailNeverRead :
    let s := held .readData [176, 0, 0] (pay131 0) 0 (.matched 0 901 0x0006)
    let s' := held .readData [176, 16, 255] (pay131 0) 0 (.matched 0 901 0x0006)
    tailless s = tailless s' ∧ s ≠ s' := by decide +kernel

/-- The fewest channels that suffice. -/
theorem witness_ResetReleaseStarts :
    let s := { State.reset with rst := true, chMask := 0x1FE7, perNum := 1, perDen := 1 }
    s.rst = true ∧ s.chMask &&& 0x1FE7 = 0x1FE7 ∧ 0 < s.perNum ∧ 0 < s.perDen := by decide

theorem witness_ResetReleaseConfigError :
    let s := { State.reset with rst := true, chMask := 0 }
    s.rst = true ∧ s.chMask = 0 := by decide

theorem witness_ResetRefusesUnusableConfig :
    (let s := { State.reset with rst := true, chMask := 0x1FE6 }
     s.rst = true ∧ s.chMask ≠ 0 ∧ s.chMask &&& 0x1FE7 ≠ 0x1FE7) ∧
    (let s := { State.reset with rst := true, perNum := 0 }
     s.rst = true ∧ s.chMask ≠ 0 ∧ s.chMask &&& 0x1FE7 = 0x1FE7 ∧ (s.perNum = 0 ∨ s.perDen = 0)) ∧
    (let s := { State.reset with rst := true, perDen := 0 }
     s.rst = true ∧ s.chMask ≠ 0 ∧ s.chMask &&& 0x1FE7 = 0x1FE7 ∧ (s.perNum = 0 ∨ s.perDen = 0)) := by decide

/-- The last column of a frame, the first index past it, and the bytes just outside the page codes. -/
theorem witness_ColumnDrawn :
    (let s := called { Args.init with cmd := ⟨183, 0, 0⟩, colIdx := 131, sel := true }
     Memory.wf s.grid = true ∧ s.args.cmd.b0.toNat = 176 + (7 : BitVec 3).toNat ∧ s.args.colIdx < 132) ∧
    (let s := called { Args.init with colIdx := 132 }
     Memory.wf s.grid = true ∧ s.args.cmd.b0.toNat = 176 + (0 : BitVec 3).toNat ∧ 132 ≤ s.args.colIdx) ∧
    (∀ c ∈ [(175 : Byte), 184], let s := called { Args.init with cmd := ⟨c, 0, 0⟩ }
     Memory.wf s.grid = true ∧ (s.args.cmd.b0.toNat < 176 ∨ 183 < s.args.cmd.b0.toNat)) := by decide

/-- `RenderCalledDirectly`, `RenderIsItsSteps` and `PageDecodeExact` at both ends of the page codes, inside and outside. -/
theorem witness_pageCodes :
    (called { Args.init with cmd := ⟨176, 0, 0⟩ }).args.cmd.b0.toNat = 176 + (0 : BitVec 3).toNat ∧
    (called { Args.init with cmd := ⟨183, 0, 0⟩ }).args.cmd.b0.toNat = 176 + (7 : BitVec 3).toNat ∧
    (called { Args.init with cmd := ⟨175, 0, 0⟩ }).args.cmd.b0.toNat < 176 ∧
    183 < (called { Args.init with cmd := ⟨184, 0, 0⟩ }).args.cmd.b0.toNat := by decide

theorem witness_RenderEventOrder : (pay131 0x81 ++ [0]).length = 132 ∧ 131 < 132 ∧ 7 < 8 := by decide +kernel

/-- Two states that differ in everything but the operands: the second with the grid that the first render leaves, and
with a grid of its own. -/
theorem witness_RenderOfItsOperandsOnly :
    let s := called { Args.init with cmd := ⟨177, 1, 2⟩ }
    let s' := { held .readData [64] [1] 5 .endOfStream with args := { Args.init with cmd := ⟨177, 3, 4⟩, colIdx := 9 } }
    let s'' := { s' with grid := [(8, 1), (16895, 1)] }
    Memory.wf s.grid = true ∧ Memory.wf s'.grid = true ∧ Memory.wf s''.grid = true ∧
      s'.args.cmd.b0 = s.args.cmd.b0 ∧ s'.args.pay = s.args.pay ∧ s'.args.sel = s.args.sel ∧
      after (exec .render s) (fun t => decide (s'.grid = t.grid)) = true ∧ s''.grid ≠ s.grid ∧
      s.args.cmd.b0.toNat = 176 + (1 : BitVec 3).toNat ∧ 131 < 132 ∧ 7 < 8 := by decide +kernel

/-- The last cell, and the first column outside the grid. -/
theorem witness_SetPixelWritesOneCell :
    Memory.wf State.reset.grid = true ∧ (263 : BitVec 9).toNat < 264 ∧ 264 ≤ (264 : BitVec 9).toNat := by decide

theorem witness_OtherEventsLeaveCore :
    (2 : BitVec 3) ≠ 3 ∧ (4 : BitVec 3) ≠ 3 ∧ (4 : BitVec 3).toNat ≤ 4 ∧ 4 < (5 : BitVec 3).toNat := by decide

/-- `GridIsFoldOfEvents` and `NoPartialFrame`. -/
theorem witness_NoPartialFrame :
    ∃ t, (∀ f w args rest, beforeHandOver.inputs ≠ .call f w args :: rest) ∧ step beforeHandOver = .next t :=
  ⟨_, nofun, rfl⟩

/-- One state for each request. -/
theorem witness_RequestRowsDrivePort :
    (inReset .endMark).rst = true ∧ State.reset.rst = false ∧ State.reset.state = .findStart ∧
    (held .halted [] [] 0 .endOfStream).rst = false ∧ (held .halted [] [] 0 .endOfStream).state = .halted ∧
    (∀ st ∈ [Fsm.verifyStart, .findNextStartClk, .readData], ∀ tr ∈ [Track.cs1, .cs2],
      let s := { State.reset with state := st, track := tr }
      s.rst = false ∧ (s.state = .verifyStart ∨ s.state = .findNextStartClk ∨ s.state = .readData) ∧
        (s.track = .cs1 ∨ s.track = .cs2)) := by decide

/-- Taken at the least index, refused below it, refused for its levels, taken in HALTED. -/
theorem witness_ResponseTaken :
    (let s := { State.reset with minIdx := 7, rspIdx := 7, rspLv := 0x0001 }
     s.rst = false ∧ s.rsp = none ∧ s.state ≠ .halted ∧ responseFits s.request s.rspAlt s.rspLv = true ∧
       s.minIdx ≤ s.rspIdx) ∧
    (let s := { State.reset with minIdx := 7, rspIdx := 6, rspLv := 0x0001 }
     s.rst = false ∧ s.rsp = none ∧ s.state ≠ .halted ∧ responseFits s.request s.rspAlt s.rspLv = true ∧
       s.rspIdx < s.minIdx) ∧
    (let s := { State.reset with rspLv := 0x0003 }
     s.rst = false ∧ s.rsp = none ∧ s.state ≠ .halted ∧ responseFits s.request s.rspAlt s.rspLv = false) ∧
    (let s := { State.reset with state := .halted }
     s.rst = false ∧ s.rsp = none ∧ s.state = .halted) := by decide

theorem witness_UnmatchedSampleConsumed :
    let s := { oneItem (.sample 0x0000) with prev := 0x0001, prevValid := true, nextIdx := 1 }
    s.rst = false ∧ s.rsp = none ∧ s.portLevel = .levelB ∧ s.eosSeen = false ∧ s.state ≠ .halted ∧
      s.inputs = [.sample 0x0000] ∧ firstMatch (patternSet s.request) s.prevValid s.prev 0x0000 = none := by decide

theorem witness_LateItemsDropped :
    (let s := { oneItem .endMark with eosSeen := true }
     s.rst = false ∧ s.rsp = none ∧ s.portLevel = .levelB ∧ (s.eosSeen = true ∨ s.state = .halted) ∧
       s.inputs = [.endMark]) ∧
    (let s := { oneItem (.sample 0x1606) with state := .halted }
     s.rst = false ∧ s.rsp = none ∧ s.portLevel = .levelB ∧ (s.eosSeen = true ∨ s.state = .halted) ∧
       s.inputs = [.sample 0x1606]) := by decide

theorem witness_FirstSampleMatchesNothing :
    let s := oneItem (.sample 0x0002)
    s.rst = false ∧ s.rsp = none ∧ s.portLevel = .levelB ∧ s.eosSeen = false ∧ s.state ≠ .halted ∧
      s.prevValid = false ∧ s.inputs = [.sample 0x0002] := by decide

theorem witness_RwAndELevelsIgnored :
    beforeHandOver.rst = false ∧ beforeHandOver.rsp = none ∧ sameButRwE 0x0002 0x001A = true := by decide

/-- Two states that differ in rw and e before the front-end, on the pins and in the Sample to come. -/
theorem witness_RwAndELevelsIgnored_step :
    let s := beforeHandOver
    let s' := { beforeHandOver with prev := 0x0019, rspLv := 0x0018, inputs := [.sample 0x000A] }
    withoutRwE s = withoutRwE s' ∧ s ≠ s' ∧ ∀ args rest, s.inputs ≠ .call .fn 7 args :: rest :=
  ⟨by decide +kernel, by decide +kernel, nofun⟩

/-- Two states that differ in every dead register. -/
theorem witness_DeadRegistersNeverRead :
    let s := State.reset
    let s' := { State.reset with track := .cs2, candIdx := 9, refIdx := 9, prev := 0x1FFF }
    liveView s = liveView s' ∧ s ≠ s' := by decide +kernel

/-- Every legal predicate code on some channel. -/
theorem witness_PatternTestExact :
    ∀ k : Nat, k < 13 → ((called { Args.init with pat := 0x4688 }).args.pat.extractLsb' (3 * k) 3).toNat ≤ 4 := by decide

/-- A Sample for each clock pattern. -/
theorem witness_SelectorFromLevels :
    responseFits 2 0 (called { Args.init with lv := 0x0006 }).args.lv = true ∧
    responseFits 3 0 (called { Args.init with lv := 0x0005 }).args.lv = true := by decide

/-- The least period with equal indices, and indices the wrong way round. -/
theorem witness_TimeDeltaExact :
    0 < { called Args.init with perNum := 1, perDen := 1 }.perNum ∧
    0 < { called Args.init with perNum := 1, perDen := 1 }.perDen ∧
    (called { Args.init with a := 5, b := 5 }).args.a ≤ (called { Args.init with a := 5, b := 5 }).args.b ∧
    (called { Args.init with a := 6, b := 5 }).args.b < (called { Args.init with a := 6, b := 5 }).args.a := by decide

/-- `StartWindowExact` and `ClockWindowExact`. -/
theorem witness_classifierOperand : (called { Args.init with q := ⟨12, 5⟩ }).args.q.den ≠ 0 := by decide

theorem witness_TickThresholdsAgree : 0 < 9 ∧ 0 < 10 ∧ 4 ≤ 9 := by decide

end Sys2Proof.Tests
end

namespace Sys2Proof.Machine.DeadRegisters

/-! R33: no rule reads a dead register. Every part of a step is shown to answer the same, up to dead registers, when the dead
registers are blanked before (`ReadsLive`): first what the rules read, then the shared operations, the operations, the
ways of fetching, and from them the step. -/

/-! ### The live part of a state -/

/-- The content of a register where it is live, else the value `liveView` blanks it to. -/
def keepIf {α : Type} (live : Bool) (blank x : α) : α := if live then x else blank

@[simp] theorem keepIf_true {α : Type} (blank x : α) : keepIf true blank x = x := rfl
@[simp] theorem keepIf_false {α : Type} (blank x : α) : keepIf false blank x = blank := rfl

@[simp] theorem keepIf_keepIf {α : Type} (live : Bool) (blank x : α) :
    keepIf live blank (keepIf live blank x) = keepIf live blank x := by
  cases live <;> rfl

/-- The states in which `track` is live (R26). -/
def trackLive (st : Fsm) : Bool := decide (st ≠ .findStart) && decide (st ≠ .halted)

/-- `liveView` as one update of the four registers that can be dead: `cand_idx` is live in VERIFY_START alone, `ref_idx` in
FIND_NEXT_START_CLK alone (R26), `prev` while `prev_valid` is 1 (R27). -/
theorem liveView_eq (s : State) : liveView s =
    { s with track := keepIf (trackLive s.state) .cs1 s.track,
             candIdx := keepIf (decide (s.state = .verifyStart)) 0 s.candIdx,
             refIdx := keepIf (decide (s.state = .findNextStartClk)) 0 s.refIdx,
             prev := keepIf s.prevValid 0#13 s.prev } := by
  cases hs : s.state <;> cases hv : s.prevValid <;> simp [liveView, hs, hv, trackLive]

@[simp] theorem liveView_liveView (s : State) : liveView (liveView s) = liveView s := by simp [liveView_eq]

/-! ### What the rules read of a state -/

@[simp] theorem liveView_state (s : State) : (liveView s).state = s.state := by rw [liveView_eq]
@[simp] theorem liveView_cmd (s : State) : (liveView s).cmd = s.cmd := by rw [liveView_eq]
@[simp] theorem liveView_pay (s : State) : (liveView s).pay = s.pay := by rw [liveView_eq]
@[simp] theorem liveView_chMask (s : State) : (liveView s).chMask = s.chMask := by rw [liveView_eq]
@[simp] theorem liveView_perNum (s : State) : (liveView s).perNum = s.perNum := by rw [liveView_eq]
@[simp] theorem liveView_perDen (s : State) : (liveView s).perDen = s.perDen := by rw [liveView_eq]
@[simp] theorem liveView_prevValid (s : State) : (liveView s).prevValid = s.prevValid := by rw [liveView_eq]
@[simp] theorem liveView_prev (s : State) : (liveView s).prev = keepIf s.prevValid 0#13 s.prev := by rw [liveView_eq]
@[simp] theorem liveView_nextIdx (s : State) : (liveView s).nextIdx = s.nextIdx := by rw [liveView_eq]
@[simp] theorem liveView_eosSeen (s : State) : (liveView s).eosSeen = s.eosSeen := by rw [liveView_eq]
@[simp] theorem liveView_rst (s : State) : (liveView s).rst = s.rst := by rw [liveView_eq]
@[simp] theorem liveView_rspAlt (s : State) : (liveView s).rspAlt = s.rspAlt := by rw [liveView_eq]
@[simp] theorem liveView_rspIdx (s : State) : (liveView s).rspIdx = s.rspIdx := by rw [liveView_eq]
@[simp] theorem liveView_rspLv (s : State) : (liveView s).rspLv = s.rspLv := by rw [liveView_eq]
@[simp] theorem liveView_rsp (s : State) : (liveView s).rsp = s.rsp := by rw [liveView_eq]
@[simp] theorem liveView_portLevel (s : State) : (liveView s).portLevel = s.portLevel := by rw [liveView_eq]
@[simp] theorem liveView_minIdx (s : State) : (liveView s).minIdx = s.minIdx := by rw [liveView_eq]
@[simp] theorem liveView_inputs (s : State) : (liveView s).inputs = s.inputs := by rw [liveView_eq]
@[simp] theorem liveView_args (s : State) : (liveView s).args = s.args := by rw [liveView_eq]

/-- `cand_idx` is live in VERIFY_START (R26). -/
theorem liveView_candIdx {s : State} (hs : s.state = .verifyStart) : (liveView s).candIdx = s.candIdx := by
  simp [liveView_eq, hs]

/-- `ref_idx` is live in FIND_NEXT_START_CLK (R26). -/
theorem liveView_refIdx {s : State} (hs : s.state = .findNextStartClk) : (liveView s).refIdx = s.refIdx := by
  simp [liveView_eq, hs]

theorem liveView_startInTime {s : State} (hs : s.state = .verifyStart) (idx : Nat) :
    (liveView s).startInTime idx = s.startInTime idx := by
  simp [State.startInTime, liveView_candIdx hs]

theorem liveView_clockInTime {s : State} (hs : s.state = .findNextStartClk) (idx : Nat) :
    (liveView s).clockInTime idx = s.clockInTime idx := by
  simp [State.clockInTime, liveView_refIdx hs]

@[simp] theorem liveView_cmd0 (s : State) : (liveView s).cmd0 = s.cmd0 := by simp [State.cmd0]

/-- The request reads `track` only where it is live (R25). -/
@[simp] theorem liveView_request (s : State) : (liveView s).request = s.request := by
  cases hs : s.state <;> simp [liveView_eq, State.request, reqOf, trackLive, hs]

/-- A timed state measures from the index that is live in it (R104, R106). -/
@[simp] theorem liveView_timeRef (s : State) : (liveView s).timeRef = s.timeRef := by
  cases hs : s.state <;> simp [liveView_eq, State.timeRef, hs]

@[simp] theorem inDomain_liveView (s : State) (r : Response) : inDomain (liveView s) r = inDomain s r := by
  simp only [inDomain, liveView_timeRef]

@[simp] theorem keyCls_liveView (s : State) (r : Response) : keyCls (liveView s) r = keyCls s r := by
  simp only [keyCls, liveView_state]
  split
  case h_1 hs => exact liveView_startInTime hs _
  case h_2 hs => exact liveView_clockInTime hs _
  case h_3 => rfl

/-- The key reads no dead register (R68). -/
@[simp] theorem transitionKey_liveView (s : State) (r : Response) : transitionKey (liveView s) r = transitionKey s r := by
  simp [transitionKey, keyLast, keyPageok]

/-- An edge predicate reads the level before only while that is valid (R142). -/
@[simp] theorem matchPattern_keepIf (p : Pattern) (v : Bool) (prev lv : Levels) :
    matchPattern p v (keepIf v 0#13 prev) lv = matchPattern p v prev lv := by
  cases v with
  | false => simp [matchPattern, predicateHolds]
  | true => rfl

@[simp] theorem firstMatch_keepIf (ps : List Pattern) (v : Bool) (prev lv : Levels) :
    firstMatch ps v (keepIf v 0#13 prev) lv = firstMatch ps v prev lv := by
  simp only [firstMatch, matchPattern_keepIf]

/-! ### Outcomes seen through the live registers -/

@[simp] theorem seenThrough_next (f : State → State) (s : State) : seenThrough f (.next s) = .next (f s) := rfl
@[simp] theorem seenThrough_fault (f : State → State) (e : Fault) : seenThrough f (.fault e) = .fault e := rfl
@[simp] theorem seenThrough_refused (f : State → State) (r : Refusal) : seenThrough f (.refused r) = .refused r := rfl

@[simp] theorem seenThrough_ite (f : State → State) (c : Prop) [Decidable c] (o o' : Res) :
    seenThrough f (if c then o else o') = if c then seenThrough f o else seenThrough f o' := apply_ite ..

/-- `f` answers the same, seen through `view`, when the dead registers are blanked before. -/
def ReadsLive {α β : Type} (view : α → β) (f : State → α) : Prop := ∀ s, view (f (liveView s)) = view (f s)

/-- Such an `f` cannot tell apart states that agree on the live registers. -/
theorem ReadsLive.congr {α β : Type} {view : α → β} {f : State → α} (hf : ReadsLive view f) {s s' : State}
    (h : liveView s = liveView s') : view (f s) = view (f s') := by
  rw [← hf s, h, hf s']

/-! ### The shared operations -/

theorem emitAll_liveView (evs : List Event) (s : State) : emitAll evs (liveView s) = liveView (emitAll evs s) := by
  simp only [liveView_eq, emitAll]

theorem consume_liveView (s : State) : consume (liveView s) = liveView (consume s) := by
  simp only [liveView_eq, consume]

theorem reportUnknownPage_liveView (c : Byte) (s : State) :
    reportUnknownPage c (liveView s) = liveView (reportUnknownPage c s) := by
  simp only [liveView_eq, reportUnknownPage, emitAll]

theorem renderFrame_liveView (c : Byte) (pay : List Byte) (sel : Bool) (s : State) :
    renderFrame c pay sel (liveView s) = liveView (renderFrame c pay sel s) := by
  unfold renderFrame
  split
  · exact emitAll_liveView ..
  · exact reportUnknownPage_liveView ..

theorem assertReset_liveView (s : State) : assertReset (liveView s) = liveView (assertReset s) := by
  simp only [liveView_eq, assertReset]

theorem acceptSample_liveView (lv : Levels) (s : State) :
    acceptSample lv (liveView s) = liveView (acceptSample lv s) := by
  simp only [liveView_eq, acceptSample, keepIf_true]

theorem drivePins_liveView (alt idx : Nat) (lv : Levels) (s : State) :
    drivePins alt idx lv (liveView s) = liveView (drivePins alt idx lv s) := by
  simp only [liveView_eq, drivePins]

/-- Reset overwrites every register that can be dead (R32). -/
theorem resetRegisters_liveView (s : State) : resetRegisters (liveView s) = resetRegisters s := by
  simp only [liveView_eq, resetRegisters]

/-- In FIND_START nothing is left of what was live before (R26). -/
theorem liveView_consume_enterFindStart (s : State) :
    liveView (consume (enterFindStart (liveView s))) = liveView (consume (enterFindStart s)) := by
  simp [liveView_eq, consume, trackLive, enterFindStart]

theorem issueRequest_live (c : BitVec 2) : ReadsLive (seenThrough liveView) (issueRequest c) := by
  intro s
  simp only [issueRequest, liveView_request, seenThrough_ite]
  simp [liveView_eq]

/-! ### The transitions

In each, the guards read registers that are live in the row's own state; what the row leaves is then compared register by
register (`liveView_eq`). -/

/-- FS.A writes `track` and `cand_idx` before anything reads them (R33, R102). -/
theorem execFsA_live : ReadsLive (seenThrough liveView) execFsA := by
  intro s
  simp only [execFsA, liveView_state, liveView_rsp]
  split
  case h_1 hs _ => simp [liveView_eq, consume, trackLive, hs]
  case h_2 => rfl

/-- FS.B as FS.A (R103). -/
theorem execFsB_live : ReadsLive (seenThrough liveView) execFsB := by
  intro s
  simp only [execFsB, liveView_state, liveView_rsp]
  split
  case h_1 hs _ => simp [liveView_eq, consume, trackLive, hs]
  case h_2 => rfl

/-- VS.ACC reads `cand_idx` in VERIFY_START, where it is live, and writes the `ref_idx` that becomes live (R104). -/
theorem execVsAcc_live : ReadsLive (seenThrough liveView) execVsAcc := by
  intro s
  simp only [execVsAcc, liveView_state, liveView_rsp]
  split
  case h_1 hs _ =>
    simp only [liveView_candIdx hs, liveView_startInTime hs, seenThrough_ite]
    simp [liveView_eq, consume, trackLive, hs]
  case h_2 => rfl

/-- VS.REJ reads `cand_idx` and goes back to FIND_START, where nothing is live (R105). -/
theorem execVsRej_live : ReadsLive (seenThrough liveView) execVsRej := by
  intro s
  simp only [execVsRej, liveView_state, liveView_rsp]
  split
  case h_1 hs _ => simp [liveView_candIdx hs, liveView_startInTime hs, raiseError, liveView_consume_enterFindStart]
  case h_2 => rfl

/-- NC.ACC reads `ref_idx` where it is live and keeps it live (R106). -/
theorem execNcAcc_live : ReadsLive (seenThrough liveView) execNcAcc := by
  intro s
  simp only [execNcAcc, liveView_state, liveView_rsp, liveView_cmd]
  split
  case h_1 hs _ =>
    simp only [liveView_refIdx hs, liveView_clockInTime hs, seenThrough_ite]
    simp [liveView_eq, consume, trackLive, hs]
  case h_2 => rfl

/-- NC.FIN leaves `ref_idx` as it is: it is dead in READ_DATA (R107). -/
theorem execNcFin_live : ReadsLive (seenThrough liveView) execNcFin := by
  intro s
  simp only [execNcFin, liveView_state, liveView_rsp, liveView_cmd]
  split
  case h_1 hs _ =>
    simp only [liveView_refIdx hs, liveView_clockInTime hs, seenThrough_ite]
    simp [liveView_eq, consume, trackLive, hs]
  case h_2 => rfl

theorem execNcRej_live : ReadsLive (seenThrough liveView) execNcRej := by
  intro s
  simp only [execNcRej, liveView_state, liveView_rsp]
  split
  case h_1 hs _ => simp [liveView_refIdx hs, liveView_clockInTime hs, raiseError, liveView_consume_enterFindStart]
  case h_2 => rfl

theorem execRdAcc_live : ReadsLive (seenThrough liveView) execRdAcc := by
  intro s
  simp only [execRdAcc, liveView_state, liveView_rsp, liveView_pay]
  split
  case h_1 hs _ => simp [liveView_eq, consume, trackLive, hs]
  case h_2 => rfl

/-- RD.FIN renders from `cmd`, `pay` and the response alone (R110). -/
theorem execRdFin_live : ReadsLive (seenThrough liveView) execRdFin := by
  intro s
  simp only [execRdFin, liveView_state, liveView_rsp]
  split
  case h_1 => simp [renderFrame_liveView, liveView_consume_enterFindStart]
  case h_2 => rfl

theorem execRdBad_live : ReadsLive (seenThrough liveView) execRdBad := by
  intro s
  simp only [execRdBad, liveView_state, liveView_rsp]
  split
  case h_1 => simp [raiseError, reportUnknownPage_liveView, liveView_consume_enterFindStart]
  case h_2 => rfl

theorem execEos_live : ReadsLive (seenThrough liveView) execEos := by
  intro s
  simp only [execEos, liveView_state, liveView_rsp]
  split
  case h_1 => rfl
  case h_2 => simp [liveView_eq, consume, trackLive]
  case h_3 => rfl

theorem execHaltNop_live : ReadsLive (seenThrough liveView) execHaltNop := by
  intro s
  simp only [execHaltNop, liveView_state]
  split
  case h_1 => simp [consume_liveView]
  case h_2 => rfl

/-! ### Reset release -/

theorem execRstOk_live : ReadsLive (seenThrough liveView) execRstOk := by
  intro s
  simp [execRstOk, resetRegisters_liveView]

theorem execRstCfgerr_live : ReadsLive (seenThrough liveView) execRstCfgerr := by
  intro s
  simp [execRstCfgerr, resetRegisters_liveView]

/-! ### Requests, responses and the renderer -/

theorem execRspMatch_live : ReadsLive (seenThrough liveView) execRspMatch := by
  intro s
  simp only [execRspMatch, liveView_rst, liveView_rsp, liveView_state, liveView_request, liveView_rspAlt,
    liveView_rspLv, liveView_rspIdx, liveView_minIdx, seenThrough_ite]
  simp [liveView_eq]

theorem execRspEos_live : ReadsLive (seenThrough liveView) execRspEos := by
  intro s
  simp only [execRspEos, liveView_rst, liveView_rsp, seenThrough_ite]
  simp [liveView_eq]

theorem execCol_live (v : Byte) : ReadsLive (seenThrough liveView) (execCol v) := by
  intro s
  simp only [execCol, liveView_args]
  split
  case h_1 => simp [reportUnknownPage_liveView]
  case h_2 => simp [liveView_eq, emitAll]

theorem execPageDecode_live : ReadsLive (seenThrough liveView) execPageDecode := by
  intro s
  simp only [execPageDecode, liveView_args]
  split
  case h_1 => simp [liveView_eq]
  case h_2 => simp [liveView_eq]

/-- No operation reads a dead register (R33). -/
theorem exec_live (i : Instr) : ReadsLive (seenThrough liveView) (exec i) := by
  cases i with
  | fsA => exact execFsA_live
  | fsB => exact execFsB_live
  | vsAcc => exact execVsAcc_live
  | vsRej => exact execVsRej_live
  | ncAcc => exact execNcAcc_live
  | ncFin => exact execNcFin_live
  | ncRej => exact execNcRej_live
  | rdAcc => exact execRdAcc_live
  | rdFin => exact execRdFin_live
  | rdBad => exact execRdBad_live
  | eos => exact execEos_live
  | haltNop => exact execHaltNop_live
  | rstOk => exact execRstOk_live
  | rstCfgerr => exact execRstCfgerr_live
  | setpage p c a => intro s; simp [exec, execSetpage, liveView_eq]
  | col v => exact execCol_live v
  | reqNone => exact issueRequest_live 0
  | reqStart => exact issueRequest_live 1
  | reqClk1 => exact issueRequest_live 2
  | reqClk2 => exact issueRequest_live 3
  | rspMatch => exact execRspMatch_live
  | rspEos => exact execRspEos_live
  | setPixel x y on => intro s; simp [exec, execSetPixel, emitAll_liveView]
  | present => intro s; simp [exec, execPresent, emitAll_liveView]
  | record page device => intro s; simp [exec, execRecord, emitAll_liveView]
  | error code info => intro s; simp [exec, execError, emitAll_liveView]
  | timedelta => intro s; simp [exec, execTimedelta, liveView_eq]
  | classifyStart => intro s; simp [exec, execClassifyStart, liveView_eq]
  | classifyClockPeriod => intro s; simp [exec, execClassifyClockPeriod, liveView_eq]
  | pack => intro s; simp [exec, execPack, liveView_eq]
  | sel => intro s; simp [exec, execSel, liveView_eq]
  | pageDecode => exact execPageDecode_live
  | render => intro s; simp [exec, execRender, renderFrame_liveView]
  | matchPattern => intro s; simp [exec, execMatchPattern, liveView_eq]

/-- After an operation the wait depends on the live registers alone (R25, R100). -/
theorem issueWait_seenThrough (o : Res) : issueWait (seenThrough liveView o) = seenThrough liveView (issueWait o) := by
  cases o with
  | next s =>
    simp only [seenThrough_next, issueWait_next, liveView_request]
    simp only [liveView_eq]
  | fault f => rfl
  | refused r => rfl

/-! ### Fetching -/

/-- What fetching answers, with every state in it seen through the live registers. -/
def fetchedLive : Fetched → Fetched
  | .done o => .done (seenThrough liveView o)
  | .run i s => .run i (liveView s)

@[simp] theorem fetchedLive_fetchedLive (x : Fetched) : fetchedLive (fetchedLive x) = fetchedLive x := by
  rcases x with (t | e | r) | ⟨i, t⟩ <;> simp [fetchedLive]

/-- The selection by key reads no dead register (R33, R68). -/
theorem selectOp_liveView (s : State) : selectOp (liveView s) = fetchedLive (selectOp s) := by
  simp only [selectOp, liveView_rsp, inDomain_liveView, transitionKey_liveView]
  split
  case h_1 => rfl
  case h_2 =>
    split
    case isTrue => split <;> rfl
    case isFalse => rfl

theorem deliver_seenThrough (o : Res) : deliver (seenThrough liveView o) = fetchedLive (deliver o) := by
  cases o with
  | next s => exact selectOp_liveView s
  | fault f => rfl
  | refused r => rfl

theorem selectOp_live : ReadsLive fetchedLive selectOp := fun s => by rw [selectOp_liveView, fetchedLive_fetchedLive]

theorem deliver_live {f : State → Res} (hf : ReadsLive (seenThrough liveView) f) :
    ReadsLive fetchedLive fun s => deliver (f s) := fun s => by
  rw [← deliver_seenThrough, hf s, deliver_seenThrough]

/-- The front-end compares with `prev` only while it is valid, and then replaces it (R141, R142). -/
theorem frontEndSample_live (lv : Levels) : ReadsLive fetchedLive (frontEndSample lv) := by
  intro s
  simp only [frontEndSample, liveView_eosSeen, liveView_state, liveView_request, liveView_prevValid, liveView_prev,
    liveView_nextIdx, firstMatch_keepIf, acceptSample_liveView, drivePins_liveView]
  split
  case isTrue => simp [fetchedLive]
  case isFalse =>
    split
    case h_1 => simp [fetchedLive]
    case h_2 => exact deliver_live execRspMatch_live _

theorem frontEndEnd_live : ReadsLive fetchedLive frontEndEnd := by
  intro s
  simp only [frontEndEnd, liveView_eosSeen, liveView_state]
  split
  case isTrue => simp [fetchedLive]
  case isFalse => exact (deliver_live execRspEos_live).congr (by simp [liveView_eq])

theorem handIn_live (r : Response) : ReadsLive fetchedLive (handIn r) := by
  intro s
  cases r with
  | matched alt idx lv => exact (deliver_live execRspMatch_live).congr (by simp [liveView_eq])
  | endOfStream => exact deliver_live execRspEos_live s

theorem directCall_live (f : Format) (w : Nat) (args : Args) : ReadsLive fetchedLive (directCall f w args) := by
  intro s
  simp only [directCall, liveView_portLevel]
  split
  case isTrue => rfl
  case isFalse =>
    cases decode f w with
    | ok i => simp [fetchedLive, liveView_eq]
    | error e => rfl

theorem accept_live (item : Input) : ReadsLive fetchedLive (accept item) := by
  intro s
  cases item with
  | sample lv =>
    simp only [accept, liveView_portLevel]
    split
    · exact frontEndSample_live lv s
    · rfl
  | endMark =>
    simp only [accept, liveView_portLevel]
    split
    · exact frontEndEnd_live s
    · rfl
  | response r =>
    simp only [accept, liveView_portLevel]
    split
    · exact handIn_live r s
    · rfl
  | rstAssert => simp [accept, fetchedLive, assertReset_liveView]
  | rstRelease m n d => rfl
  | call f w args => exact directCall_live f w args s

theorem releaseOp_live : ReadsLive fetchedLive releaseOp := by
  intro s
  simp only [releaseOp, liveView_chMask]
  cases decode .rst (BitVec.ofBool (cfgOk s.chMask)).toNat with
  | ok i => simp [fetchedLive]
  | error e => rfl

theorem fetchInReset_live : ReadsLive fetchedLive fetchInReset := by
  intro s
  simp only [fetchInReset, liveView_inputs]
  split
  case h_1 => exact releaseOp_live.congr (by simp [liveView_eq])
  case h_2 => simp [fetchedLive, liveView_eq]
  case h_3 => simp [fetchedLive]

theorem fetch_live : ReadsLive fetchedLive fetch := by
  intro s
  simp only [fetch, liveView_rst, liveView_inputs, liveView_rsp]
  split
  case isTrue => exact fetchInReset_live s
  case isFalse =>
    split
    case h_1 => simp [fetchedLive, liveView_eq, assertReset]
    case h_2 => exact selectOp_live s
    case h_3 =>
      split
      case isTrue => exact selectOp_live s
      case isFalse => exact (accept_live _).congr (by simp [liveView_eq])

/-! ### The step -/

/-- A step reads no dead register: what is fetched agrees on the live registers, and so does what it is run to. -/
theorem step_live : ReadsLive (seenThrough liveView) step := by
  intro s
  have hf := fetch_live s
  cases hx : fetch (liveView s) with
  | done o =>
    cases hy : fetch s with
    | done o' =>
      rw [hx, hy] at hf
      simp only [step, hx, hy]
      exact Fetched.done.inj hf
    | run i t => rw [hx, hy] at hf; cases hf
  | run i t =>
    cases hy : fetch s with
    | done o => rw [hx, hy] at hf; cases hf
    | run i' t' =>
      rw [hx, hy] at hf
      obtain ⟨rfl, ht⟩ := Fetched.run.inj hf
      rw [step_of_run hx, step_of_run hy, ← issueWait_seenThrough, (exec_live i).congr ht, issueWait_seenThrough]

/-- Settles O52: `liveView` blanks the dead registers, so two states that agree on the live ones are one state once
blanked, and by `step_live` each steps as that one does. -/
theorem deadRegistersNeverRead : Obligations.DeadRegistersNeverRead := by
  unfold Obligations.DeadRegistersNeverRead
  intro s s' h
  exact step_live.congr h

end Sys2Proof.Machine.DeadRegisters

namespace Sys2Proof.Machine.GridBlindness

open DeadRegisters (seenThrough_ite)

/-! R44: nothing reads the grid. Fetching and the operations that draw nothing carry any grid through unchanged
(`CarriesGrid`); the drawing ones answer the same but for the grid (`BlindToGrid`). -/

/-- `s` with another grid in its place. -/
@[reducible] def withGrid (g : Memory) (s : State) : State := { s with grid := g }

/-- `f` neither reads nor writes the grid: with another grid it answers the same, that grid in the next state. -/
def CarriesGrid (f : State → Res) : Prop := ∀ g s, f (withGrid g s) = seenThrough (withGrid g) (f s)

/-- `f` does not read the grid: with another grid it answers the same but for the grid. -/
def BlindToGrid (f : State → Res) : Prop :=
  ∀ g s, seenThrough gridless (f (withGrid g s)) = seenThrough gridless (f s)

/-- What the grid is replaced by is not seen once the grid is blanked. -/
theorem seenThrough_gridless_withGrid (g : Memory) (o : Res) :
    seenThrough gridless (seenThrough (withGrid g) o) = seenThrough gridless o := by
  cases o with
  | next s => rfl
  | fault e => rfl
  | refused r => rfl

theorem CarriesGrid.blind {f : State → Res} (hf : CarriesGrid f) : BlindToGrid f := fun g s => by
  rw [hf g s, seenThrough_gridless_withGrid]

/-! ### The transitions and reset release

Each guard reads registers other than the grid, so the same row and branch is taken for both grids. -/

theorem issueRequest_carries (c : BitVec 2) : CarriesGrid (issueRequest c) := fun g s => by
  simp only [issueRequest, seenThrough_ite]
  rfl

theorem execFsA_carries : CarriesGrid execFsA := fun g s => by
  simp only [execFsA]
  split
  · rw [seenThrough_ite]; rfl
  · rfl

theorem execFsB_carries : CarriesGrid execFsB := fun g s => by
  simp only [execFsB]
  split
  · rw [seenThrough_ite]; rfl
  · rfl

theorem execVsAcc_carries : CarriesGrid execVsAcc := fun g s => by
  simp only [execVsAcc]
  split
  · simp only [seenThrough_ite]; rfl
  · rfl

theorem execVsRej_carries : CarriesGrid execVsRej := fun g s => by
  simp only [execVsRej]
  split
  · simp only [seenThrough_ite]; rfl
  · rfl

theorem execNcAcc_carries : CarriesGrid execNcAcc := fun g s => by
  simp only [execNcAcc]
  split
  · simp only [seenThrough_ite]; rfl
  · rfl

theorem execNcFin_carries : CarriesGrid execNcFin := fun g s => by
  simp only [execNcFin]
  split
  · simp only [seenThrough_ite]; rfl
  · rfl

theorem execNcRej_carries : CarriesGrid execNcRej := fun g s => by
  simp only [execNcRej]
  split
  · simp only [seenThrough_ite]; rfl
  · rfl

theorem execRdAcc_carries : CarriesGrid execRdAcc := fun g s => by
  simp only [execRdAcc]
  split
  · rw [seenThrough_ite]; rfl
  · rfl

/-- RD.BAD draws nothing: its one event is the `ERROR`, which writes no cell (R56, R111). -/
theorem execRdBad_carries : CarriesGrid execRdBad := fun g s => by
  simp only [execRdBad]
  split
  · rw [seenThrough_ite]; rfl
  · rfl

theorem execEos_carries : CarriesGrid execEos := fun g s => by
  simp only [execEos]
  split
  · rfl
  · rfl
  · rfl

theorem execHaltNop_carries : CarriesGrid execHaltNop := fun g s => by
  simp only [execHaltNop]
  split
  · rfl
  · rfl

/-- Reset keeps the grid (R189). -/
theorem execRstOk_carries : CarriesGrid execRstOk := fun g s => by
  simp only [execRstOk, seenThrough_ite]
  rfl

theorem execRstCfgerr_carries : CarriesGrid execRstCfgerr := fun g s => by
  simp only [execRstCfgerr, seenThrough_ite]
  rfl

/-! ### Responses and the pure functions -/

theorem execRspMatch_carries : CarriesGrid execRspMatch := fun g s => by
  simp only [execRspMatch, seenThrough_ite]
  rfl

theorem execRspEos_carries : CarriesGrid execRspEos := fun g s => by
  simp only [execRspEos, seenThrough_ite]
  rfl

theorem execTimedelta_carries : CarriesGrid execTimedelta := fun g s => by
  simp only [execTimedelta, seenThrough_ite]
  rfl

theorem execClassifyStart_carries : CarriesGrid execClassifyStart := fun g s => by
  simp only [execClassifyStart, seenThrough_ite]
  rfl

theorem execClassifyClockPeriod_carries : CarriesGrid execClassifyClockPeriod := fun g s => by
  simp only [execClassifyClockPeriod, seenThrough_ite]
  rfl

theorem execMatchPattern_carries : CarriesGrid execMatchPattern := fun g s => by
  simp only [execMatchPattern, seenThrough_ite]
  rfl

theorem execPageDecode_carries : CarriesGrid execPageDecode := fun g s => by
  simp only [execPageDecode]
  split
  · rfl
  · rfl

theorem execError_carries (code : BitVec 3) (info : Byte) : CarriesGrid (execError code info) := fun g s => by
  simp only [execError, seenThrough_ite]
  rfl

/-! ### The drawing operations -/

/-- Which events leave CORE does not depend on the grid that their pixel writes are made to (R43, R44). -/
theorem gridless_emitAll_withGrid (evs : List Event) (g : Memory) (s : State) :
    gridless (emitAll evs (withGrid g s)) = gridless (emitAll evs s) := rfl

theorem gridless_renderFrame_withGrid (c : Byte) (pay : List Byte) (sel : Bool) (g : Memory) (s : State) :
    gridless (renderFrame c pay sel (withGrid g s)) = gridless (renderFrame c pay sel s) := by
  unfold renderFrame
  split
  · exact gridless_emitAll_withGrid ..
  · rfl

/-- Emitting the same events from two grids is the same outcome but for the grid. -/
theorem emitAll_blind (evs : List Event) : BlindToGrid fun s => .next (emitAll evs s) := fun g s =>
  congrArg Host.Outcome.next (gridless_emitAll_withGrid evs g s)

/-- Going back to FIND_START reads nothing of what was drawn (R114). -/
theorem gridless_consume_enterFindStart {s t : State} (h : gridless s = gridless t) :
    gridless (consume (enterFindStart s)) = gridless (consume (enterFindStart t)) :=
  congrArg (fun u => consume (enterFindStart u)) h

/-- RD.FIN renders from `cmd`, `pay` and the response alone (R110). -/
theorem execRdFin_blind : BlindToGrid execRdFin := fun g s => by
  simp only [execRdFin]
  split
  case h_1 _ _ lv _ _ =>
    have hdraw := gridless_renderFrame_withGrid s.cmd0 (s.pay ++ [pack lv]) (selector lv) g s
    simp only [seenThrough_ite]
    exact if_congr Iff.rfl (congrArg Host.Outcome.next (gridless_consume_enterFindStart hdraw)) rfl
  case h_2 => rfl

theorem execCol_blind (v : Byte) : BlindToGrid (execCol v) := fun g s => by
  simp only [execCol]
  split
  · rfl
  · simp only [seenThrough_ite]; rfl

theorem execSetPixel_blind (x : BitVec 9) (y : BitVec 6) (on : Bool) : BlindToGrid (execSetPixel x y on) := fun g s => by
  simp only [execSetPixel, seenThrough_ite]
  exact if_congr Iff.rfl (emitAll_blind _ g s) rfl

theorem execRender_blind : BlindToGrid execRender := fun g s =>
  congrArg Host.Outcome.next (gridless_renderFrame_withGrid s.args.cmd.b0 s.args.pay.toList s.args.sel g s)

/-- No operation reads the grid (R44). -/
theorem exec_blind (i : Instr) : BlindToGrid (exec i) := by
  cases i with
  | fsA => exact execFsA_carries.blind
  | fsB => exact execFsB_carries.blind
  | vsAcc => exact execVsAcc_carries.blind
  | vsRej => exact execVsRej_carries.blind
  | ncAcc => exact execNcAcc_carries.blind
  | ncFin => exact execNcFin_carries.blind
  | ncRej => exact execNcRej_carries.blind
  | rdAcc => exact execRdAcc_carries.blind
  | rdFin => exact execRdFin_blind
  | rdBad => exact execRdBad_carries.blind
  | eos => exact execEos_carries.blind
  | haltNop => exact execHaltNop_carries.blind
  | rstOk => exact execRstOk_carries.blind
  | rstCfgerr => exact execRstCfgerr_carries.blind
  | setpage p c a => exact fun _ _ => rfl
  | col v => exact execCol_blind v
  | reqNone => exact (issueRequest_carries 0).blind
  | reqStart => exact (issueRequest_carries 1).blind
  | reqClk1 => exact (issueRequest_carries 2).blind
  | reqClk2 => exact (issueRequest_carries 3).blind
  | rspMatch => exact execRspMatch_carries.blind
  | rspEos => exact execRspEos_carries.blind
  | setPixel x y on => exact execSetPixel_blind x y on
  | present => exact emitAll_blind _
  | record page device => exact fun g s => emitAll_blind [.record page device s.args.pay.toList] g s
  | error code info => exact (execError_carries code info).blind
  | timedelta => exact execTimedelta_carries.blind
  | classifyStart => exact execClassifyStart_carries.blind
  | classifyClockPeriod => exact execClassifyClockPeriod_carries.blind
  | pack => exact fun _ _ => rfl
  | sel => exact fun _ _ => rfl
  | pageDecode => exact execPageDecode_carries.blind
  | render => exact execRender_blind
  | matchPattern => exact execMatchPattern_carries.blind

/-- The wait after an operation drives the port from `state` and `track` (R25, R100). -/
theorem issueWait_gridless (o : Res) : issueWait (seenThrough gridless o) = seenThrough gridless (issueWait o) := by
  cases o with
  | next s =>
    show issueWait (.next (gridless s)) = _
    rw [issueWait_next, issueWait_next]
    rfl
  | fault e => rfl
  | refused r => rfl

/-! ### Fetching -/

/-- What fetching answers, with another grid in every state of it. -/
def fetchedWithGrid (g : Memory) : Fetched → Fetched
  | .done o => .done (seenThrough (withGrid g) o)
  | .run i s => .run i (withGrid g s)

/-- The key is made of registers other than the grid (R68). -/
theorem selectOp_withGrid (g : Memory) (s : State) : selectOp (withGrid g s) = fetchedWithGrid g (selectOp s) := by
  have hdomain (r : Response) : inDomain (withGrid g s) r = inDomain s r := rfl
  have hkey (r : Response) : transitionKey (withGrid g s) r = transitionKey s r := rfl
  simp only [selectOp, hdomain, hkey]
  split
  · rfl
  · split
    · split
      · rfl
      · rfl
    · rfl

theorem deliver_withGrid (g : Memory) (o : Res) :
    deliver (seenThrough (withGrid g) o) = fetchedWithGrid g (deliver o) := by
  cases o with
  | next s => exact selectOp_withGrid g s
  | fault e => rfl
  | refused r => rfl

/-- Delivering what an operation that carries the grid answers carries it too. -/
theorem CarriesGrid.deliver {f : State → Res} (hf : CarriesGrid f) (g : Memory) (s : State) :
    deliver (f (withGrid g s)) = fetchedWithGrid g (deliver (f s)) := by
  rw [hf g s, deliver_withGrid]

theorem frontEndSample_withGrid (lv : Levels) (g : Memory) (s : State) :
    frontEndSample lv (withGrid g s) = fetchedWithGrid g (frontEndSample lv s) := by
  have hrequest : (withGrid g s).request = s.request := rfl
  simp only [frontEndSample, hrequest]
  split
  · rfl
  · split
    · rfl
    · exact execRspMatch_carries.deliver g (drivePins _ s.nextIdx lv (acceptSample lv s))

theorem frontEndEnd_withGrid (g : Memory) (s : State) :
    frontEndEnd (withGrid g s) = fetchedWithGrid g (frontEndEnd s) := by
  simp only [frontEndEnd]
  split
  · rfl
  · exact execRspEos_carries.deliver g { s with eosSeen := true }

theorem handIn_withGrid (r : Response) (g : Memory) (s : State) :
    handIn r (withGrid g s) = fetchedWithGrid g (handIn r s) := by
  cases r with
  | matched alt idx lv => exact execRspMatch_carries.deliver g { s with rspAlt := alt, rspIdx := idx, rspLv := lv }
  | endOfStream => exact execRspEos_carries.deliver g s

theorem directCall_withGrid (f : Format) (w : Nat) (args : Args) (g : Memory) (s : State) :
    directCall f w args (withGrid g s) = fetchedWithGrid g (directCall f w args s) := by
  simp only [directCall]
  split
  · rfl
  · cases decode f w with
    | ok i => rfl
    | error e => rfl

theorem accept_withGrid (item : Input) (g : Memory) (s : State) :
    accept item (withGrid g s) = fetchedWithGrid g (accept item s) := by
  cases item with
  | sample lv =>
    simp only [accept]
    split
    · exact frontEndSample_withGrid lv g s
    · rfl
  | endMark =>
    simp only [accept]
    split
    · exact frontEndEnd_withGrid g s
    · rfl
  | response r =>
    simp only [accept]
    split
    · exact handIn_withGrid r g s
    · rfl
  | rstAssert => rfl
  | rstRelease m n d => rfl
  | call f w args => exact directCall_withGrid f w args g s

theorem releaseOp_withGrid (g : Memory) (s : State) : releaseOp (withGrid g s) = fetchedWithGrid g (releaseOp s) := by
  simp only [releaseOp]
  cases decode .rst (BitVec.ofBool (cfgOk s.chMask)).toNat with
  | ok i => rfl
  | error e => rfl

theorem fetchInReset_withGrid (g : Memory) (s : State) :
    fetchInReset (withGrid g s) = fetchedWithGrid g (fetchInReset s) := by
  simp only [fetchInReset]
  split
  case h_1 m n d rest _ => exact releaseOp_withGrid g { s with inputs := rest, chMask := m, perNum := n, perDen := d }
  case h_2 => rfl
  case h_3 => rfl

/-- Fetching neither reads nor writes the grid (R44). -/
theorem fetch_withGrid (g : Memory) (s : State) : fetch (withGrid g s) = fetchedWithGrid g (fetch s) := by
  simp only [fetch]
  split
  case isTrue => exact fetchInReset_withGrid g s
  case isFalse =>
    split
    case h_1 => rfl
    case h_2 => exact selectOp_withGrid g s
    case h_3 item rest _ _ =>
      split
      case isTrue => exact selectOp_withGrid g s
      case isFalse => exact accept_withGrid item g { s with inputs := rest }

/-! ### The step -/

/-- With another grid a step fetches the same operation, which answers the same but for the grid, and the wait after it
does not read the grid either. -/
theorem step_blind : BlindToGrid step := fun g s => by
  have hf := fetch_withGrid g s
  cases h : fetch s with
  | done o =>
    rw [h] at hf
    simp only [step, h, hf, fetchedWithGrid]
    exact seenThrough_gridless_withGrid g o
  | run i t =>
    rw [h] at hf
    rw [step_of_run h, step_of_run hf, ← issueWait_gridless, exec_blind i g t, issueWait_gridless]

/-- Settles O44, which is `step_blind` for every state and grid. -/
theorem gridNeverRead : Obligations.GridNeverRead := by
  unfold Obligations.GridNeverRead
  exact fun s g => step_blind g s

end Sys2Proof.Machine.GridBlindness

namespace Sys2Proof.Machine.TimingClassifier

/-! R90 to R93: the model's times are the exact rationals, its comparisons by products are the comparisons of those
rationals, and the tick thresholds are the bounds where the products change sides. -/

/-! ### Times as rationals -/

/-- Multiplying out the denominators decides `<` of the rationals. -/
theorem timeLt_iff_ratio {q t : Time} (hq : q.den ≠ 0) (ht : t.den ≠ 0) :
    timeLt q t = true ↔ (q.num : ℚ) / q.den < t.num / t.den := by
  have hq' : (0 : ℚ) < q.den := Nat.cast_pos.mpr (Nat.pos_of_ne_zero hq)
  have ht' : (0 : ℚ) < t.den := Nat.cast_pos.mpr (Nat.pos_of_ne_zero ht)
  rw [div_lt_div_iff₀ hq' ht', timeLt, decide_eq_true_iff]
  exact_mod_cast Iff.rfl

/-- Multiplying out the denominators decides `≤` of the rationals. -/
theorem timeLe_iff_ratio {q t : Time} (hq : q.den ≠ 0) (ht : t.den ≠ 0) :
    timeLe q t = true ↔ (q.num : ℚ) / q.den ≤ t.num / t.den := by
  have hq' : (0 : ℚ) < q.den := Nat.cast_pos.mpr (Nat.pos_of_ne_zero hq)
  have ht' : (0 : ℚ) < t.den := Nat.cast_pos.mpr (Nat.pos_of_ne_zero ht)
  rw [div_le_div_iff₀ hq' ht', timeLe, decide_eq_true_iff]
  exact_mod_cast Iff.rfl

theorem classifyStart_iff_ratio {q : Time} (hq : q.den ≠ 0) :
    classifyStart q = true ↔ (q.num : ℚ) / q.den < 12 / 5 :=
  timeLt_iff_ratio (t := tStartMax) hq (by decide)

theorem classifyClockPeriod_iff_ratio {q : Time} (hq : q.den ≠ 0) :
    classifyClockPeriod q = true ↔ (37 / 10 : ℚ) ≤ (q.num : ℚ) / q.den ∧ (q.num : ℚ) / q.den ≤ 42 / 10 := by
  rw [classifyClockPeriod, Bool.and_eq_true]
  exact and_congr (timeLe_iff_ratio (q := tClkMin) (by decide) hq) (timeLe_iff_ratio (t := tClkMax) hq (by decide))

/-- The time difference is the exact quotient: the natural subtraction does not truncate for `a ≤ b`. -/
theorem deltaMs_ratio {a b : Nat} (perNum perDen : Nat) (hab : a ≤ b) :
    ((deltaMs perNum perDen a b).num : ℚ) / (deltaMs perNum perDen a b).den = ((b : ℚ) - a) * perNum / perDen := by
  rw [deltaMs, Nat.cast_mul, Nat.cast_sub hab]

/-! ### The classifier's operations on their domains -/

theorem exec_timedelta_of_le {s : State} (h : s.args.a ≤ s.args.b) :
    exec .timedelta s = .next { s with ret := .time (deltaMs s.perNum s.perDen s.args.a s.args.b) } :=
  if_pos h

theorem exec_timedelta_of_lt {s : State} (h : s.args.b < s.args.a) :
    exec .timedelta s = .refused .indicesNotIncreasing :=
  if_neg (Nat.not_le_of_lt h)

theorem exec_classifyStart_of_den_ne_zero {s : State} (h : s.args.q.den ≠ 0) :
    exec .classifyStart s = .next { s with ret := .verdict (classifyStart s.args.q) } :=
  if_neg h

theorem exec_classifyClockPeriod_of_den_ne_zero {s : State} (h : s.args.q.den ≠ 0) :
    exec .classifyClockPeriod s = .next { s with ret := .verdict (classifyClockPeriod s.args.q) } :=
  if_neg h

/-! ### The tick thresholds (R93) -/

/-- The model's rounded-up quotient is the ceiling of the rational one: both are the least natural not below it. -/
theorem ceilDiv_eq_ceil (n : Nat) {d : Nat} (hd : 0 < d) : ceilDiv n d = ⌈(n : ℚ) / d⌉₊ := by
  refine eq_of_forall_ge_iff fun x => ?_
  rw [ceilDiv_le hd, Nat.ceil_le, div_le_iff₀ (Nat.cast_pos.mpr hd)]
  exact_mod_cast Iff.rfl

section Thresholds
variable {perNum : Nat} (perDen n : Nat)

theorem startLim_eq : startLim perNum perDen = ceilDiv (12 * perDen) (5 * perNum) := rfl
theorem clkMinT_eq : clkMinT perNum perDen = ceilDiv (37 * perDen) (10 * perNum) := rfl
theorem clkMaxT_eq : clkMaxT perNum perDen = 42 * perDen / (10 * perNum) := rfl

theorem lt_startLim_iff (hn : 0 < perNum) : n < startLim perNum perDen ↔ n * perNum * 5 < 12 * perDen := by
  have hd : 0 < 5 * perNum := by omega
  rw [← not_le, startLim_eq, ceilDiv_le hd, not_le, Nat.mul_assoc, Nat.mul_comm 5]

theorem clkMinT_le_iff (hn : 0 < perNum) : clkMinT perNum perDen ≤ n ↔ 37 * perDen ≤ n * perNum * 10 := by
  have hd : 0 < 10 * perNum := by omega
  rw [clkMinT_eq, ceilDiv_le hd, Nat.mul_assoc, Nat.mul_comm 10]

theorem le_clkMaxT_iff (hn : 0 < perNum) : n ≤ clkMaxT perNum perDen ↔ n * perNum * 10 ≤ 42 * perDen := by
  have hd : 0 < 10 * perNum := by omega
  rw [clkMaxT_eq, Nat.le_div_iff_mul_le hd, Nat.mul_assoc, Nat.mul_comm 10]

theorem startLim_eq_ceil (hn : 0 < perNum) : startLim perNum perDen = ⌈(12 * perDen : ℚ) / (5 * perNum)⌉₊ := by
  have hd : 0 < 5 * perNum := by omega
  rw [startLim_eq, ceilDiv_eq_ceil _ hd]
  push_cast; rfl

theorem clkMinT_eq_ceil (hn : 0 < perNum) : clkMinT perNum perDen = ⌈(37 * perDen : ℚ) / (10 * perNum)⌉₊ := by
  have hd : 0 < 10 * perNum := by omega
  rw [clkMinT_eq, ceilDiv_eq_ceil _ hd]
  push_cast; rfl

theorem clkMaxT_eq_floor : clkMaxT perNum perDen = ⌊(42 * perDen : ℚ) / (10 * perNum)⌋₊ := by
  rw [clkMaxT_eq, ← Nat.floor_div_eq_div (K := ℚ)]
  push_cast; rfl

end Thresholds

/-! ### The obligations -/

/-- Settles O60: the products are those of the two classifiers on `deltaMs`, and each threshold is where its product
changes sides. -/
theorem tickThresholdsAgree : Obligations.TickThresholdsAgree := by
  unfold Obligations.TickThresholdsAgree
  intro perNum perDen a b hn _ _
  have hstart := classifyStart_iff (deltaMs perNum perDen a b)
  have hclock := classifyClockPeriod_iff (deltaMs perNum perDen a b)
  exact ⟨hstart, hstart.trans (lt_startLim_iff perDen (b - a) hn).symm, hclock,
    hclock.trans (and_congr (clkMinT_le_iff perDen (b - a) hn) (le_clkMaxT_iff perDen (b - a) hn)).symm,
    startLim_eq_ceil perDen hn, clkMinT_eq_ceil perDen hn, clkMaxT_eq_floor perDen⟩

/-- Settles O57: the returned pair is `deltaMs`, whose value is exact. -/
theorem timeDeltaExact : Obligations.TimeDeltaExact := by
  unfold Obligations.TimeDeltaExact
  exact fun s => ⟨fun _ _ hab => ⟨_, exec_timedelta_of_le hab, deltaMs_ratio s.perNum s.perDen hab⟩,
    exec_timedelta_of_lt⟩

/-- Settles O58: the returned verdict is `classifyStart`, the strict comparison of the rationals. -/
theorem startWindowExact : Obligations.StartWindowExact := by
  unfold Obligations.StartWindowExact
  exact fun _ hq => ⟨_, exec_classifyStart_of_den_ne_zero hq, classifyStart_iff_ratio hq⟩

/-- Settles O59: the returned verdict is `classifyClockPeriod`, the two inclusive comparisons of the rationals. -/
theorem clockWindowExact : Obligations.ClockWindowExact := by
  unfold Obligations.ClockWindowExact
  exact fun _ hq => ⟨_, exec_classifyClockPeriod_of_den_ne_zero hq, classifyClockPeriod_iff_ratio hq⟩

end Sys2Proof.Machine.TimingClassifier

namespace Sys2Proof.Machine.FramingFsm

/-! R100 to R112, R115: the framing state machine. For a transition three things are shown: its key matches its row of
R69's map, so it is the operation selected, and the operation's next state. The key is written out once per sequencing
state, with only the bits that state computes left open; the timing bits are the products of R104 and R106. -/

/-! ### The operation map selects one row (R69) -/

/-- Rows whose codes agree under both masks are the same row. -/
theorem tkRows_disjoint : ∀ r ∈ tkRows, ∀ r' ∈ tkRows, r.code &&& r'.mask = r'.code &&& r.mask → r = r' := by
  decide

/-- A key matches at most one row. -/
theorem tkRow_unique {r r' : TkRow} {k : Key} (hr : r ∈ tkRows) (hr' : r' ∈ tkRows) (hk : k &&& r.mask = r.code)
    (hk' : k &&& r'.mask = r'.code) : r = r' :=
  tkRows_disjoint r hr r' hr' <| calc
    r.code &&& r'.mask = k &&& r.mask &&& r'.mask := by rw [hk]
    _ = k &&& r'.mask &&& r.mask := by rw [BitVec.and_assoc, BitVec.and_comm r.mask, ← BitVec.and_assoc]
    _ = r'.code &&& r.mask := by rw [hk']

/-- A key decodes to the row it matches. -/
theorem decodeTk_of_matches {r : TkRow} {k : Key} (hr : r ∈ tkRows) (hk : k &&& r.mask = r.code) :
    decodeTk k = .ok r.instr := by
  unfold decodeTk
  split
  case h_1 r' hfind =>
    have hk' : k &&& r'.mask = r'.code := of_decide_eq_true (List.find?_some hfind :)
    rw [tkRow_unique hr (List.mem_of_find?_eq_some hfind) hk hk']
  case h_2 hfind => exact absurd (decide_eq_true hk) (List.find?_eq_none.1 hfind r hr)

/-- Decoding a key as a word loses no bit of it. -/
theorem decode_tk_toNat (k : Key) : decode .tk k.toNat = decodeTk k := by
  have hwidth : ¬ 2 ^ Format.tk.width ≤ k.toNat := Nat.not_le_of_lt k.isLt
  rw [decode, if_neg hwidth]
  simp only [BitVec.ofNat_toNat, BitVec.setWidth_eq]

/-- A held response in the domain selects the row that its key matches. -/
theorem selectOp_of_matches {s : State} {r : Response} {code mask : Key} {i : Instr} (hr : s.rsp = some r)
    (hd : inDomain s r = true) (hk : transitionKey s r &&& mask = code)
    (hrow : (⟨code, mask, i⟩ : TkRow) ∈ tkRows) : selectOp s = .run i s := by
  have hdecode : decode .tk (transitionKey s r).toNat = .ok i := (decode_tk_toNat _).trans (decodeTk_of_matches hrow hk)
  simp only [selectOp, hr, hd, hdecode, if_true]

/-- The three parts of a transition's statement: its key is its row's, so it is selected, and it answers `o`. -/
theorem selected_runs {s : State} {r : Response} {code mask : Key} {i : Instr} {o : Res} (hr : s.rsp = some r)
    (hd : inDomain s r = true) (hk : transitionKey s r &&& mask = code) (ho : exec i s = o)
    (hrow : (⟨code, mask, i⟩ : TkRow) ∈ tkRows := by decide) :
    transitionKey s r &&& mask = code ∧ selectOp s = .run i s ∧ exec i s = o :=
  ⟨hk, selectOp_of_matches hr hd hk hrow, ho⟩

/-! ### The timing tests (R104, R106) -/

theorem startInTime_iff (s : State) (idx : Nat) :
    s.startInTime idx = true ↔ (idx - s.candIdx) * s.perNum * 5 < 12 * s.perDen :=
  classifyStart_iff _

theorem startInTime_eq_false_iff (s : State) (idx : Nat) :
    s.startInTime idx = false ↔ 12 * s.perDen ≤ (idx - s.candIdx) * s.perNum * 5 := by
  rw [← Bool.not_eq_true, startInTime_iff, not_lt]

theorem clockInTime_iff (s : State) (idx : Nat) : s.clockInTime idx = true ↔
    37 * s.perDen ≤ (idx - s.refIdx) * s.perNum * 10 ∧ (idx - s.refIdx) * s.perNum * 10 ≤ 42 * s.perDen :=
  classifyClockPeriod_iff _

theorem clockInTime_eq_false_iff (s : State) (idx : Nat) : s.clockInTime idx = false ↔
    (idx - s.refIdx) * s.perNum * 10 < 37 * s.perDen ∨ 42 * s.perDen < (idx - s.refIdx) * s.perNum * 10 := by
  rw [← Bool.not_eq_true, clockInTime_iff, not_and_or, not_le, not_le]

/-! ### The transition key in each state (R68) -/

section Keys
variable {s : State} {alt : BitVec 1} {idx : Nat} {lv : Levels}

theorem transitionKey_findStart (hs : s.state = .findStart) :
    transitionKey s (.matched alt idx lv) = 0b0000#4 ++ alt ++ 0b000#3 := by
  simp only [transitionKey, keyEos, keyAlt, keyCls, keyLast, keyPageok, hs, Fsm.code]
  revert alt; decide

theorem transitionKey_verifyStart (hs : s.state = .verifyStart) :
    transitionKey s (.matched alt idx lv) = 0b0010#4 ++ alt ++ BitVec.ofBool (s.startInTime idx) ++ 0b00#2 := by
  simp only [transitionKey, keyEos, keyAlt, keyCls, keyLast, keyPageok, hs, Fsm.code]
  generalize s.startInTime idx = cls
  revert alt cls; decide

/-- In FIND_NEXT_START_CLK the bit `last` says that this byte completes the Command. -/
theorem keyLast_findNextStartClk (hs : s.state = .findNextStartClk) :
    keyLast s (.matched alt idx lv) = decide (s.cmd.length = 2) := by
  simp only [keyLast, hs]; rfl

/-- In READ_DATA the bit `last` says that this byte fills the frame. -/
theorem keyLast_readData (hs : s.state = .readData) :
    keyLast s (.matched alt idx lv) = decide (s.pay.length = 131) := by
  simp only [keyLast, hs]; rfl

theorem transitionKey_findNextStartClk (hs : s.state = .findNextStartClk) :
    transitionKey s (.matched alt idx lv) =
      0b0100#4 ++ alt ++ BitVec.ofBool (s.clockInTime idx) ++ BitVec.ofBool (decide (s.cmd.length = 2)) ++ 0b0#1 := by
  simp only [transitionKey, keyEos, keyAlt, keyCls, keyLast_findNextStartClk hs, keyPageok, hs, Fsm.code]
  generalize s.clockInTime idx = cls
  generalize decide (s.cmd.length = 2) = last
  revert alt cls last; decide

theorem transitionKey_readData (hs : s.state = .readData) :
    transitionKey s (.matched alt idx lv) =
      0b0110#4 ++ alt ++ 0b0#1 ++ BitVec.ofBool (decide (s.pay.length = 131)) ++
        BitVec.ofBool (decide (s.pay.length = 131) && (pageOf s.cmd0).isSome) := by
  simp only [transitionKey, keyEos, keyAlt, keyCls, keyLast_readData hs, keyPageok, hs, Fsm.code]
  generalize decide (s.pay.length = 131) = last
  generalize (pageOf s.cmd0).isSome = legal
  revert alt last legal; decide

/-- The bits that a match computes are 0 at the end of stream, whatever the state. -/
theorem key_bits_endOfStream (s : State) :
    keyCls s .endOfStream = false ∧ keyLast s .endOfStream = false ∧ keyPageok s .endOfStream = false := by
  cases hs : s.state <;> simp [keyCls, keyLast, keyPageok, hs]

theorem transitionKey_endOfStream (s : State) : transitionKey s .endOfStream = s.state.code ++ 0b10000#5 := by
  obtain ⟨hcls, hlast, hpageok⟩ := key_bits_endOfStream s
  simp only [transitionKey, keyEos, keyAlt, hcls, hlast, hpageok]
  cases s.state <;> rfl

/-! ### The key matches its row (R69)

The bits that the state's key leaves open are put in, and the masked key is compared for both values of `alt`. -/

theorem key_matches_fsA (hs : s.state = .findStart) : transitionKey s (.matched 0 idx lv) &&& 0xF8 = 0x00 := by
  rw [transitionKey_findStart hs]; decide

theorem key_matches_fsB (hs : s.state = .findStart) : transitionKey s (.matched 1 idx lv) &&& 0xF8 = 0x08 := by
  rw [transitionKey_findStart hs]; decide

theorem key_matches_vsAcc (hs : s.state = .verifyStart) (ht : s.startInTime idx = true) :
    transitionKey s (.matched alt idx lv) &&& 0xF4 = 0x24 := by
  rw [transitionKey_verifyStart hs, ht]; revert alt; decide

theorem key_matches_vsRej (hs : s.state = .verifyStart) (ht : s.startInTime idx = false) :
    transitionKey s (.matched alt idx lv) &&& 0xF4 = 0x20 := by
  rw [transitionKey_verifyStart hs, ht]; revert alt; decide

theorem key_matches_ncAcc (hs : s.state = .findNextStartClk) (ht : s.clockInTime idx = true) (hc : s.cmd.length ≠ 2) :
    transitionKey s (.matched alt idx lv) &&& 0xF6 = 0x44 := by
  rw [transitionKey_findNextStartClk hs, ht, decide_eq_false hc]; revert alt; decide

theorem key_matches_ncFin (hs : s.state = .findNextStartClk) (ht : s.clockInTime idx = true) (hc : s.cmd.length = 2) :
    transitionKey s (.matched alt idx lv) &&& 0xF6 = 0x46 := by
  rw [transitionKey_findNextStartClk hs, ht, decide_eq_true hc]; revert alt; decide

/-- The mask of NC.REJ leaves the bit `last` out, so what `cmd` holds does not matter. -/
theorem key_matches_ncRej (hs : s.state = .findNextStartClk) (ht : s.clockInTime idx = false) :
    transitionKey s (.matched alt idx lv) &&& 0xF4 = 0x40 := by
  rw [transitionKey_findNextStartClk hs, ht]
  generalize decide (s.cmd.length = 2) = last
  revert alt last; decide

theorem key_matches_rdAcc (hs : s.state = .readData) (hp : s.pay.length ≠ 131) :
    transitionKey s (.matched alt idx lv) &&& 0xF2 = 0x60 := by
  rw [transitionKey_readData hs, decide_eq_false hp, Bool.false_and]; revert alt; decide

theorem key_matches_rdFin {page : BitVec 3} (hs : s.state = .readData) (hp : s.pay.length = 131)
    (hpage : pageOf s.cmd0 = some page) : transitionKey s (.matched alt idx lv) &&& 0xF3 = 0x63 := by
  rw [transitionKey_readData hs, decide_eq_true hp, hpage, Option.isSome_some]; revert alt; decide

theorem key_matches_rdBad (hs : s.state = .readData) (hp : s.pay.length = 131) (hpage : pageOf s.cmd0 = none) :
    transitionKey s (.matched alt idx lv) &&& 0xF3 = 0x62 := by
  rw [transitionKey_readData hs, decide_eq_true hp, hpage, Option.isSome_none]; revert alt; decide

/-- Outside HALTED the highest bit of the state code is 0. -/
theorem key_matches_eos (hs : s.state ≠ .halted) : transitionKey s .endOfStream &&& 0x90 = 0x10 := by
  rw [transitionKey_endOfStream]
  cases hstate : s.state with
  | halted => exact absurd hstate hs
  | findStart => rfl
  | verifyStart => rfl
  | findNextStartClk => rfl
  | readData => rfl

/-! ### The domain of the time difference (R90) -/

theorem inDomain_findStart (hs : s.state = .findStart) (r : Response) : inDomain s r = true := by
  simp only [inDomain, State.timeRef, hs]

theorem inDomain_readData (hs : s.state = .readData) (r : Response) : inDomain s r = true := by
  simp only [inDomain, State.timeRef, hs]

theorem inDomain_verifyStart (hs : s.state = .verifyStart) (hd : s.candIdx < idx) :
    inDomain s (.matched alt idx lv) = true := by
  simp only [inDomain, State.timeRef, hs, hd, decide_true]

theorem inDomain_findNextStartClk (hs : s.state = .findNextStartClk) (hd : s.refIdx < idx) :
    inDomain s (.matched alt idx lv) = true := by
  simp only [inDomain, State.timeRef, hs, hd, decide_true]

end Keys

theorem inDomain_endOfStream (s : State) : inDomain s .endOfStream = true := by
  unfold inDomain
  cases s.timeRef <;> rfl

/-! ### What each transition answers where its row is selected -/

section Transitions
variable {s : State} {alt : BitVec 1} {idx : Nat} {lv : Levels}

theorem exec_fsA (hs : s.state = .findStart) (hr : s.rsp = some (.matched 0 idx lv)) :
    exec .fsA s = .next { s with track := .cs2, candIdx := idx, state := .verifyStart, rsp := none } := by
  simp [exec, execFsA, hs, hr, consume]

theorem exec_fsB (hs : s.state = .findStart) (hr : s.rsp = some (.matched 1 idx lv)) :
    exec .fsB s = .next { s with track := .cs1, candIdx := idx, state := .verifyStart, rsp := none } := by
  simp [exec, execFsB, hs, hr, consume]

theorem exec_vsAcc (hs : s.state = .verifyStart) (hr : s.rsp = some (.matched alt idx lv)) (hd : s.candIdx < idx)
    (ht : s.startInTime idx = true) :
    exec .vsAcc s = .next { s with cmd := [pack lv], refIdx := idx, state := .findNextStartClk, rsp := none } := by
  simp [exec, execVsAcc, hs, hr, Nat.not_le_of_lt hd, ht, consume]

theorem exec_vsRej (hs : s.state = .verifyStart) (hr : s.rsp = some (.matched alt idx lv)) (hd : s.candIdx < idx)
    (ht : s.startInTime idx = false) :
    exec .vsRej s = .next { s with cmd := [], pay := [], state := .findStart, rsp := none } := by
  simp [exec, execVsRej, hs, hr, Nat.not_le_of_lt hd, ht, consume]

theorem exec_ncAcc (hs : s.state = .findNextStartClk) (hr : s.rsp = some (.matched alt idx lv)) (hd : s.refIdx < idx)
    (ht : s.clockInTime idx = true) (hc : s.cmd.length ≠ 2) :
    exec .ncAcc s = .next { s with cmd := s.cmd ++ [pack lv], refIdx := idx, rsp := none } := by
  simp [exec, execNcAcc, hs, hr, Nat.not_le_of_lt hd, ht, cmdLen, hc, consume]

theorem exec_ncFin (hs : s.state = .findNextStartClk) (hr : s.rsp = some (.matched alt idx lv)) (hd : s.refIdx < idx)
    (ht : s.clockInTime idx = true) (hc : s.cmd.length = 2) :
    exec .ncFin s = .next { s with cmd := s.cmd ++ [pack lv], pay := [], state := .readData, rsp := none } := by
  simp [exec, execNcFin, hs, hr, Nat.not_le_of_lt hd, ht, cmdLen, hc, consume]

theorem exec_ncRej (hs : s.state = .findNextStartClk) (hr : s.rsp = some (.matched alt idx lv)) (hd : s.refIdx < idx)
    (ht : s.clockInTime idx = false) :
    exec .ncRej s = .next { s with cmd := [], pay := [], state := .findStart, rsp := none } := by
  simp [exec, execNcRej, hs, hr, Nat.not_le_of_lt hd, ht, consume]

theorem exec_rdAcc (hs : s.state = .readData) (hr : s.rsp = some (.matched alt idx lv)) (hp : s.pay.length ≠ 131) :
    exec .rdAcc s = .next { s with pay := s.pay ++ [pack lv], rsp := none } := by
  simp [exec, execRdAcc, hs, hr, frameLen, hp, consume]

/-- RD.FIN leaves the render's events and their writes, with the buffers dropped (R110, R114). -/
theorem exec_rdFin {page : BitVec 3} (hs : s.state = .readData) (hr : s.rsp = some (.matched alt idx lv))
    (hp : s.pay.length = 131) (hpage : pageOf s.cmd0 = some page) :
    exec .rdFin s = .next
      { s with grid := replay s.grid (renderEvents page (selector lv) (s.pay ++ [pack lv])),
               events := s.events ++ renderEvents page (selector lv) (s.pay ++ [pack lv]),
               cmd := [], pay := [], state := .findStart, rsp := none } := by
  simp [exec, execRdFin, hs, hr, frameLen, hp, hpage, renderFrame, emitAll, enterFindStart, consume, replay]

theorem exec_rdBad (hs : s.state = .readData) (hr : s.rsp = some (.matched alt idx lv)) (hp : s.pay.length = 131)
    (hpage : pageOf s.cmd0 = none) :
    exec .rdBad s = .next
      { s with status := s.status ||| 4, events := s.events ++ [.error 3 s.cmd0],
               cmd := [], pay := [], state := .findStart, rsp := none } := by
  simp [exec, execRdBad, hs, hr, frameLen, hp, hpage, consume]

theorem exec_eos (hs : s.state ≠ .halted) (hr : s.rsp = some .endOfStream) :
    exec .eos s =
      .next { s with status := s.status ||| 2, cmd := [], pay := [], state := .halted, rsp := none } := by
  cases hstate : s.state with
  | halted => exact absurd hstate hs
  | _ =>
    simp only [exec, execEos, hr, hstate]
    rfl

end Transitions

/-! ### The DeviceSelector on the Samples of the clock patterns (R115, R138) -/

/-- A Sample that fits an alternative has, on every channel, a level that the alternative's predicate leaves. -/
theorem levelAfter_of_responseFits {req : BitVec 2} {alt : BitVec 1} {lv : Levels} {p : Pattern} {k : Nat}
    (hp : (patternSet req)[alt.toNat]? = some p) (hfits : responseFits req alt lv = true) (hk : k < nChannels) :
    levelAfter (patCode p k) (lv.getLsbD k) = true := by
  simp only [responseFits, hp] at hfits
  exact List.all_eq_true.1 hfits k (List.mem_range.2 hk)

/-- PS_CLK1 asks for cs1 low. -/
theorem cs1_low_of_fits_clk1 {lv : Levels} (h : responseFits 2 0 lv = true) : lv.getLsbD 0 = false := by
  have hcode : patCode 0xC1 0 = 1 := by decide
  have hlevel := levelAfter_of_responseFits (p := 0xC1) (k := 0) rfl h (by decide)
  rw [hcode] at hlevel
  simpa [levelAfter] using hlevel

/-- PS_CLK2 asks for cs2 low. -/
theorem cs2_low_of_fits_clk2 {lv : Levels} (h : responseFits 3 0 lv = true) : lv.getLsbD 1 = false := by
  have hcode : patCode 0xC8 1 = 1 := by decide
  have hlevel := levelAfter_of_responseFits (p := 0xC8) (k := 1) rfl h (by decide)
  rw [hcode] at hlevel
  simpa [levelAfter] using hlevel

/-! ### The obligations -/

/-- Settles O16: the alternative is the one open bit of FIND_START's key. -/
theorem handOverBeginsCandidate : Obligations.HandOverBeginsCandidate := by
  unfold Obligations.HandOverBeginsCandidate
  intro s idx lv hs
  constructor
  · intro hr
    exact selected_runs hr (inDomain_findStart hs _) (key_matches_fsA hs) (exec_fsA hs hr)
  · intro hr
    exact selected_runs hr (inDomain_findStart hs _) (key_matches_fsB hs) (exec_fsB hs hr)

/-- Settles O17: under 2.40 ms the key bit `cls` is 1. -/
theorem firstClockInTimeAccepted : Obligations.FirstClockInTimeAccepted := by
  unfold Obligations.FirstClockInTimeAccepted
  intro s alt idx lv hs hr hd hearly
  have ht : s.startInTime idx = true := (startInTime_iff s idx).2 hearly
  exact selected_runs hr (inDomain_verifyStart hs hd) (key_matches_vsAcc hs ht) (exec_vsAcc hs hr hd ht)

/-- Settles O18: from 2.40 ms on the key bit `cls` is 0. -/
theorem firstClockTooLateRejected : Obligations.FirstClockTooLateRejected := by
  unfold Obligations.FirstClockTooLateRejected
  intro s alt idx lv hs hr hd hlate
  have ht : s.startInTime idx = false := (startInTime_eq_false_iff s idx).2 hlate
  exact selected_runs hr (inDomain_verifyStart hs hd) (key_matches_vsRej hs ht) (exec_vsRej hs hr hd ht)

/-- Settles O19: in the window `cls` is 1, and with one byte in `cmd` the bit `last` is 0. -/
theorem secondCommandByteAccepted : Obligations.SecondCommandByteAccepted := by
  unfold Obligations.SecondCommandByteAccepted
  intro s alt idx lv hs hr hd hlen hmin hmax
  have ht : s.clockInTime idx = true := (clockInTime_iff s idx).2 ⟨hmin, hmax⟩
  have hlast : s.cmd.length ≠ 2 := by omega
  exact selected_runs hr (inDomain_findNextStartClk hs hd) (key_matches_ncAcc hs ht hlast)
    (exec_ncAcc hs hr hd ht hlast)

/-- Settles O20: in the window `cls` is 1, and with two bytes in `cmd` so is `last`; `ref_idx` stays as it is. -/
theorem thirdCommandByteCompletes : Obligations.ThirdCommandByteCompletes := by
  unfold Obligations.ThirdCommandByteCompletes
  intro s alt idx lv hs hr hd hlast hmin hmax
  have ht : s.clockInTime idx = true := (clockInTime_iff s idx).2 ⟨hmin, hmax⟩
  obtain ⟨hkey, hsel, hexec⟩ :=
    selected_runs hr (inDomain_findNextStartClk hs hd) (key_matches_ncFin hs ht hlast) (exec_ncFin hs hr hd ht hlast)
  exact ⟨hkey, hsel, s.refIdx, hexec⟩

/-- Settles O21: out of the window `cls` is 0, and the row's mask leaves `last` out. -/
theorem clockOutOfWindowRejected : Obligations.ClockOutOfWindowRejected := by
  unfold Obligations.ClockOutOfWindowRejected
  intro s alt idx lv hs hr hd hout
  have ht : s.clockInTime idx = false := (clockInTime_eq_false_iff s idx).2 hout
  exact selected_runs hr (inDomain_findNextStartClk hs hd) (key_matches_ncRej hs ht) (exec_ncRej hs hr hd ht)

/-- Settles O22: the bit `last` is 0 while the frame is not full. -/
theorem payloadByteAppended : Obligations.PayloadByteAppended := by
  unfold Obligations.PayloadByteAppended
  intro s alt idx lv hs hr hlen
  have hlast : s.pay.length ≠ 131 := by omega
  exact selected_runs hr (inDomain_readData hs _) (key_matches_rdAcc hs hlast) (exec_rdAcc hs hr hlast)

/-- Settles O23: the bits `last` and `pageok` are 1, and the render is that of the page the code stands for. -/
theorem fullFrameRendered : Obligations.FullFrameRendered := by
  unfold Obligations.FullFrameRendered
  intro s alt idx lv page hs hr hlast hcode
  have hpage : pageOf s.cmd0 = some page := pageOf_of_legal hcode
  rw [← selector_eq, ← pack_eq]
  exact selected_runs hr (inDomain_readData hs _) (key_matches_rdFin hs hlast hpage) (exec_rdFin hs hr hlast hpage)

/-- Settles O25: the bit `last` is 1 and `pageok` is 0. -/
theorem unknownPageReported : Obligations.UnknownPageReported := by
  unfold Obligations.UnknownPageReported
  intro s alt idx lv hs hr hlast hcode
  have hpage : pageOf s.cmd0 = none := pageOf_of_illegal hcode
  exact selected_runs hr (inDomain_readData hs _) (key_matches_rdBad hs hlast hpage) (exec_rdBad hs hr hlast hpage)

/-- Settles O26: the key bit `eos` is 1, and the state code's highest bit is 0 outside HALTED. -/
theorem endOfStreamHalts : Obligations.EndOfStreamHalts := by
  unfold Obligations.EndOfStreamHalts
  intro s hs hr
  exact selected_runs hr (inDomain_endOfStream s) (key_matches_eos hs) (exec_eos hs hr)

/-- Settles O55: `selector` on the levels, where each clock pattern fixes one chip select low. -/
theorem selectorFromLevels : Obligations.SelectorFromLevels := by
  unfold Obligations.SelectorFromLevels
  intro s
  refine ⟨selector s.args.lv, rfl, ?_, fun hfits => ?_, fun hfits => ?_⟩
  · simp [selector_eq]
  · rw [selector_eq, cs1_low_of_fits_clk1 hfits, Bool.and_false]
  · rw [selector_eq, cs2_low_of_fits_clk2 hfits, Bool.not_false, Bool.true_and]

end Sys2Proof.Machine.FramingFsm

namespace Sys2Proof.Machine.FrameRenderer

/-! R127: a render's events are a function of its operands, and so is what it leaves in the cells it writes, because a cell
shows the last bit written to it whatever the grid was before. A canonical grid is fixed by what its cells show, so a
replay over its own result changes nothing. -/

/-! ### A canonical grid is what its cells show (R41, R42) -/

/-- In a list with rising addresses, the listed cells are those that read as what they list. -/
theorem mem_iff_get {g : Memory} {a : Nat} {v : Byte} (h : g.Pairwise (fun c d => c.1 < d.1))
    (hv : v ≠ Memory.unlisted) : (a, v) ∈ g ↔ Memory.get g a = v := by
  induction g with
  | nil => simp [Memory.get, hv.symm]
  | cons d rest ih =>
    obtain ⟨hd, hrest⟩ := List.pairwise_cons.1 h
    by_cases ha : d.1 = a
    · subst ha
      have hlater : (d.1, v) ∉ rest := fun hmem => Nat.lt_irrefl d.1 (hd (d.1, v) hmem)
      simp [Memory.get, hlater, Prod.ext_iff, eq_comm]
    · have hne : (a, v) ≠ d := fun he => ha (by rw [← he])
      simp [Memory.get, ha, hne, ih hrest]

/-- The listed cells of a canonical grid are the cells of the grid that are on. -/
theorem mem_iff_pixel {g : Memory} {c : Host.Cell} (h : Memory.wf g = true) :
    c ∈ g ↔ c.1 < gridCells ∧ c.2 = 1 ∧ pixel g (c.1 / gridH) (c.1 % gridH) = true := by
  obtain ⟨a, v⟩ := c
  obtain ⟨hsorted, hcells⟩ := (wf_iff g).1 h
  have haddr : cellAddr (a / gridH) (a % gridH) = a := Nat.div_add_mod a gridH
  have hread : (a, (1 : Byte)) ∈ g ↔ pixel g (a / gridH) (a % gridH) = true := by
    rw [mem_iff_get hsorted (by decide), pixel, haddr, decide_eq_true_iff]
  constructor
  · intro hmem
    obtain ⟨hlt, rfl⟩ : a < gridCells ∧ v = 1 := hcells _ hmem
    exact ⟨hlt, rfl, hread.1 hmem⟩
  · rintro ⟨-, rfl, hon⟩
    exact hread.2 hon

/-- Canonical grids that show the same in every cell are the same list. -/
theorem eq_of_pixel_eq {g g' : Memory} (h : Memory.wf g = true) (h' : Memory.wf g' = true)
    (hpix : ∀ x y : Nat, x < 264 → y < 64 → pixel g x y = pixel g' x y) : g = g' := by
  have : Std.Irrefl (fun c d : Host.Cell => c.1 < d.1) := ⟨fun c => Nat.lt_irrefl c.1⟩
  have : Std.Antisymm (fun c d : Host.Cell => c.1 < d.1) := ⟨fun _ _ hcd hdc => absurd hdc hcd.asymm⟩
  refine List.Pairwise.eq_of_mem_iff ((wf_iff g).1 h).1 ((wf_iff g').1 h').1 fun c => ?_
  rw [mem_iff_pixel h, mem_iff_pixel h']
  refine and_congr_right fun hlt => ?_
  have hcolumn : c.1 / gridH < 264 := (Nat.div_lt_iff_lt_mul (by decide)).2 hlt
  have hrow : c.1 % gridH < 64 := Nat.mod_lt _ (by decide)
  rw [hpix _ _ hcolumn hrow]

/-! ### The last bit that events write to a cell -/

/-- The bit that an event writes to cell (x, y), if it writes that cell. -/
def bitAt (e : Event) (x y : Nat) : Option Bool :=
  match e with
  | .setPixel x' y' on => if x = x'.toNat ∧ y = y'.toNat then some on else none
  | .present => none
  | .record _ _ _ => none
  | .error _ _ => none

theorem bitAt_setPixel {x y : Nat} (on : Bool) (hx : x < 2 ^ 9) (hy : y < 2 ^ 6) :
    bitAt (.setPixel (BitVec.ofNat 9 x) (BitVec.ofNat 6 y) on) x y = some on := by
  rw [bitAt, BitVec.toNat_ofNat, BitVec.toNat_ofNat, Nat.mod_eq_of_lt hx, Nat.mod_eq_of_lt hy, if_pos ⟨rfl, rfl⟩]

/-- The last bit that a list of events writes to cell (x, y), if one of them writes it. -/
def lastBitAt (evs : List Event) (x y : Nat) : Option Bool :=
  match evs with
  | [] => none
  | e :: rest => (lastBitAt rest x y).or (bitAt e x y)

/-- What a cell shows after one event. -/
theorem pixel_applyEvent {g : Memory} {e : Event} {x y : Nat} (h : Memory.wf g = true) (hy : y < 64) :
    pixel (applyEvent g e) x y = (bitAt e x y).getD (pixel g x y) := by
  cases e with
  | setPixel x' y' on =>
    rw [applyEvent, pixel_pixWrite on h y'.isLt hy, bitAt]
    split <;> rfl
  | present => rfl
  | record p d b => rfl
  | error c i => rfl

/-- What a cell shows after a replay: the last bit written to it, else its content before. -/
theorem pixel_replay {g : Memory} {evs : List Event} {x y : Nat} (h : Memory.wf g = true) (he : ∀ e ∈ evs, e.inGrid)
    (hy : y < 64) : pixel (replay g evs) x y = (lastBitAt evs x y).getD (pixel g x y) := by
  induction evs generalizing g with
  | nil => rfl
  | cons e rest ih =>
    obtain ⟨hin, hrest⟩ := List.forall_mem_cons.1 he
    rw [replay_cons, ih (applyEvent_wf h hin) hrest, pixel_applyEvent h hy, lastBitAt]
    cases lastBitAt rest x y <;> rfl

/-- Replaying events over the grid that they left changes nothing. -/
theorem replay_idempotent {g : Memory} {evs : List Event} (h : Memory.wf g = true) (he : ∀ e ∈ evs, e.inGrid) :
    replay (replay g evs) evs = replay g evs := by
  have hwf : Memory.wf (replay g evs) = true := replay_wf h he
  refine eq_of_pixel_eq (replay_wf hwf he) hwf fun x y _ hy => ?_
  rw [pixel_replay hwf he hy, pixel_replay h he hy]
  cases lastBitAt evs x y <;> rfl

/-- A cell that one of the events writes is written by the list. -/
theorem lastBitAt_isSome {evs : List Event} {e : Event} {x y : Nat} (hmem : e ∈ evs)
    (hbit : (bitAt e x y).isSome = true) : (lastBitAt evs x y).isSome = true := by
  induction evs with
  | nil => cases hmem
  | cons d rest ih =>
    rw [lastBitAt, Option.isSome_or, Bool.or_eq_true]
    rcases List.mem_cons.1 hmem with rfl | hmem
    · exact .inr hbit
    · exact .inl (ih hmem)

/-- Over any two canonical grids a replay leaves the same bit in a cell that it writes. -/
theorem pixel_replay_eq_of_written {g g' : Memory} {evs : List Event} {x y : Nat} (h : Memory.wf g = true)
    (h' : Memory.wf g' = true) (he : ∀ e ∈ evs, e.inGrid) (hy : y < 64) (hw : (lastBitAt evs x y).isSome = true) :
    pixel (replay g' evs) x y = pixel (replay g evs) x y := by
  obtain ⟨on, hon⟩ := Option.isSome_iff_exists.1 hw
  rw [pixel_replay h' he hy, pixel_replay h he hy, hon, Option.getD_some, Option.getD_some]

/-! ### A render writes every cell of its band and half (R47, R49) -/

/-- Byte `j` of a payload is drawn as a write of each of its eight cells. -/
theorem setPixel_mem_payloadEvents (page : BitVec 3) (off : Nat) {i j r : Nat} {pay : List Byte} (hj : j < pay.length)
    (hr : r < 8) : ∃ on, .setPixel (BitVec.ofNat 9 (i + j + off)) (BitVec.ofNat 6 (rowOffset page + r)) on ∈
      payloadEvents page off i pay := by
  induction pay generalizing i j with
  | nil => cases hj
  | cons v rest ih =>
    simp only [payloadEvents, List.mem_append]
    cases j with
    | zero => exact ⟨rowBit v r, .inl (List.mem_map.2 ⟨r, List.mem_range.2 hr, rfl⟩)⟩
    | succ j =>
      obtain ⟨on, hon⟩ := ih (i := i + 1) (Nat.lt_of_succ_lt_succ hj)
      exact ⟨on, .inr (by rwa [Nat.succ_add_eq_add_succ] at hon)⟩

/-- The 1056 cells of the band and half are among those that a render of 132 bytes writes. -/
theorem renderEvents_writes (page : BitVec 3) (sel : Bool) {pay : List Byte} {i r : Nat} (hpay : pay.length = 132)
    (hi : i < 132) (hr : r < 8) :
    (lastBitAt (renderEvents page sel pay) (i + if sel then 132 else 0) (8 * page.toNat + r)).isSome = true := by
  rw [← columnOffset_deviceOf]
  obtain ⟨on, hon⟩ :=
    setPixel_mem_payloadEvents page (columnOffset (deviceOf sel)) (i := 0) (hj := hpay.symm ▸ hi) (hr := hr)
  have hoff := columnOffset_le (deviceOf sel)
  have hpage := page.isLt
  rw [Nat.zero_add] at hon
  refine lastBitAt_isSome (List.mem_append_left _ (List.mem_append_left _ hon)) ?_
  rw [rowOffset, bandH, bitAt_setPixel on (by omega) (by omega), Option.isSome_some]

/-! ### What a render emits, from its operands alone (R120, R126) -/

/-- The events of `render(cmd, pay, sel)`: the frame of a legal page code, else the one report. -/
def operandEvents (c : Byte) (pay : List Byte) (sel : Bool) : List Event :=
  match pageOf c with
  | some p => renderEvents p sel pay
  | none => [.error (ErrorKind.code .unknownPageCode) c]

theorem operandEvents_legal {c : Byte} {page : BitVec 3} (h : c.toNat = 176 + page.toNat) (pay : List Byte) (sel : Bool) :
    operandEvents c pay sel = renderEvents page sel pay := by
  rw [operandEvents, pageOf_of_legal h]

theorem operandEvents_inGrid (c : Byte) (sel : Bool) {pay : List Byte} (h : pay.length = 132) :
    ∀ e ∈ operandEvents c pay sel, e.inGrid := by
  unfold operandEvents
  cases pageOf c with
  | some p => exact renderEvents_inGrid h
  | none => exact List.forall_mem_singleton.2 trivial

theorem renderFrame_events (c : Byte) (pay : List Byte) (sel : Bool) (s : State) :
    (renderFrame c pay sel s).events = s.events ++ operandEvents c pay sel := by
  unfold renderFrame operandEvents
  cases pageOf c <;> rfl

theorem renderFrame_grid (c : Byte) (pay : List Byte) (sel : Bool) (s : State) :
    (renderFrame c pay sel s).grid = replay s.grid (operandEvents c pay sel) := by
  unfold renderFrame operandEvents
  cases pageOf c <;> rfl

/-! ### The obligation -/

/-- Settles O38: both renders replay the events of the one triple of operands. -/
theorem renderOfItsOperandsOnly : Obligations.RenderOfItsOperandsOnly := by
  unfold Obligations.RenderOfItsOperandsOnly
  intro s s' hwf hwf' hcmd hpay hsel
  have hlen : s.args.pay.toList.length = 132 := s.args.pay.length_toList
  have hin := operandEvents_inGrid s.args.cmd.b0 s.args.sel hlen
  refine ⟨operandEvents s.args.cmd.b0 s.args.pay.toList s.args.sel, _, _, rfl, rfl, renderFrame_events .., ?_⟩
  rw [hcmd, hpay, hsel, renderFrame_grid, renderFrame_grid]
  refine ⟨renderFrame_events .., fun hgrid => ?_, fun page hcode i r hi hr => ?_⟩
  · rw [hgrid, replay_idempotent hwf hin]
  · have hpage := page.isLt
    have hwritten := renderEvents_writes page s.args.sel hlen hi hr
    rw [← operandEvents_legal hcode] at hwritten
    exact pixel_replay_eq_of_written hwf hwf' hin (by omega) hwritten

end Sys2Proof.Machine.FrameRenderer

namespace Sys2Proof.Machine.BitPacker

/-! R147: the byte that PACK returns, bit by bit. -/

/-- A byte is the sum of its bits, bit `k` weighing `2 ^ k`. -/
theorem byte_eq_sum_bits : ∀ b : Byte, b.toNat =
    (b.getLsbD 0).toNat + 2 * (b.getLsbD 1).toNat + 4 * (b.getLsbD 2).toNat + 8 * (b.getLsbD 3).toNat +
      16 * (b.getLsbD 4).toNat + 32 * (b.getLsbD 5).toNat + 64 * (b.getLsbD 6).toNat + 128 * (b.getLsbD 7).toNat := by
  decide

/-- Bit `k` of the packed byte is data line `d k`, which is channel `5 + k`. -/
theorem getLsbD_pack (lv : Levels) {k : Nat} (hk : k < 8) : (pack lv).getLsbD k = lv.getLsbD (5 + k) := by
  rw [pack_eq, BitVec.getLsbD_extractLsb', decide_eq_true hk, Bool.true_and]

/-- Settles O54: PACK returns `pack` of its operand, whose bits are the data lines in order. -/
theorem packIsWeightedSum : Obligations.PackIsWeightedSum := by
  unfold Obligations.PackIsWeightedSum
  intro s
  refine ⟨pack s.args.lv, rfl, pack_eq _, ?_⟩
  rw [byte_eq_sum_bits]
  simp only [getLsbD_pack, Nat.reduceLT, Nat.reduceAdd]

end Sys2Proof.Machine.BitPacker

namespace Sys2Proof.Machine.RwAndE

open DeadRegisters (seenThrough_next seenThrough_ite)

/-! R156: rw and e influence nothing. Blanking them before a part of a step is shown to be the same as blanking them in
what it answers (`Drops`): first for what the rules read of a Sample, then for the operations and for fetching, and from
them for the step. A reset release is only blind to them (`BlindToRwE`), because it puts free levels into `prev`;
MATCH_PATTERN called directly is apart, because its pattern can name the two channels. -/

/-! ### What the rules read of a Sample (R60) -/

/-- The blanking keeps every channel but rw (3) and e (4). -/
theorem getLsbD_dropRwE (lv : Levels) {k : Nat} (hrw : k ≠ 3) (he : k ≠ 4) :
    (dropRwE lv).getLsbD k = lv.getLsbD k := by
  have hmask : ∀ k < 13, k ≠ 3 → k ≠ 4 → (0x1FE7 : Levels).getLsbD k = true := by decide
  rcases Nat.lt_or_ge k 13 with hk | hk
  · rw [dropRwE, BitVec.getLsbD_and, hmask k hk hrw he, Bool.and_true]
  · rw [BitVec.getLsbD_of_ge _ _ hk, BitVec.getLsbD_of_ge _ _ hk]

@[simp] theorem dropRwE_dropRwE (lv : Levels) : dropRwE (dropRwE lv) = dropRwE lv := by
  simp only [dropRwE, BitVec.and_assoc, BitVec.and_self]

theorem sameButRwE_iff (lv lv' : Levels) : sameButRwE lv lv' = true ↔ dropRwE lv = dropRwE lv' := decide_eq_true_iff

/-- The data lines are channels 5 to 12 (R147). -/
@[simp] theorem pack_dropRwE (lv : Levels) : pack (dropRwE lv) = pack lv := by
  refine BitVec.eq_of_getLsbD_eq fun k hk => ?_
  rw [BitPacker.getLsbD_pack _ hk, BitPacker.getLsbD_pack _ hk, getLsbD_dropRwE _ (by omega) (by omega)]

/-- The chip selects are channels 0 and 1 (R115). -/
@[simp] theorem selector_dropRwE (lv : Levels) : selector (dropRwE lv) = selector lv := by
  rw [selector_eq, selector_eq, getLsbD_dropRwE lv (k := 1) (by decide) (by decide),
    getLsbD_dropRwE lv (k := 0) (by decide) (by decide)]

/-! ### What the patterns read of a Sample (R62, R63) -/

/-- A pattern that asks nothing of rw and e. -/
def AsksNoRwE (p : Pattern) : Prop := patCode p 3 = 0 ∧ patCode p 4 = 0

/-- No pattern that CORE issues asks anything of rw or e (R63). -/
theorem patternSet_asksNoRwE {req : BitVec 2} {p : Pattern} (hp : p ∈ patternSet req) : AsksNoRwE p := by
  have hsets : ∀ req : BitVec 2, (patternSet req).all (fun p => patCode p 3 == 0 && patCode p 4 == 0) = true := by
    decide
  simpa [AsksNoRwE] using List.all_eq_true.1 (hsets req) p hp

/-- On each channel such a pattern asks nothing, or the blanking keeps the level. -/
theorem AsksNoRwE.code_or_level {p : Pattern} (hp : AsksNoRwE p) (k : Nat) :
    patCode p k = 0 ∨ ∀ lv : Levels, (dropRwE lv).getLsbD k = lv.getLsbD k := by
  obtain ⟨hrw, he⟩ := hp
  by_cases h3 : k = 3
  · exact .inl (h3 ▸ hrw)
  by_cases h4 : k = 4
  · exact .inl (h4 ▸ he)
  exact .inr fun lv => getLsbD_dropRwE lv h3 h4

theorem matchPattern_dropRwE {p : Pattern} (hp : AsksNoRwE p) (v : Bool) (prev lv : Levels) :
    matchPattern p v (dropRwE prev) (dropRwE lv) = matchPattern p v prev lv := by
  refine congrArg (List.all _) (funext fun k => ?_)
  rcases hp.code_or_level k with hcode | hlevel
  · rw [hcode]; rfl
  · rw [hlevel, hlevel]

theorem levelAfter_dropRwE {p : Pattern} (hp : AsksNoRwE p) (lv : Levels) (k : Nat) :
    levelAfter (patCode p k) ((dropRwE lv).getLsbD k) = levelAfter (patCode p k) (lv.getLsbD k) := by
  rcases hp.code_or_level k with hcode | hlevel
  · rw [hcode]; rfl
  · rw [hlevel]

/-- What matches a request depends on no level of rw or e, before or now (R143). -/
@[simp] theorem firstMatch_dropRwE (req : BitVec 2) (v : Bool) (prev lv : Levels) :
    firstMatch (patternSet req) v (dropRwE prev) (dropRwE lv) = firstMatch (patternSet req) v prev lv := by
  have hset : ∀ p ∈ patternSet req, AsksNoRwE p := fun _ => patternSet_asksNoRwE
  unfold firstMatch
  generalize patternSet req = ps at hset
  induction ps with
  | nil => rfl
  | cons p ps ih =>
    obtain ⟨hp, hps⟩ := List.forall_mem_cons.1 hset
    rw [List.findIdx?_cons, List.findIdx?_cons, matchPattern_dropRwE hp, ih hps]

/-- What a response can answer depends on no level of rw or e (R138). -/
@[simp] theorem responseFits_dropRwE (req : BitVec 2) (alt : BitVec 1) (lv : Levels) :
    responseFits req alt (dropRwE lv) = responseFits req alt lv := by
  unfold responseFits
  split
  case h_1 p hp =>
    have hno : AsksNoRwE p := patternSet_asksNoRwE (List.mem_of_getElem? hp)
    simp only [levelAfter_dropRwE hno]
  case h_2 => rfl

/-! ### What the rules read of a state -/

section Fields
variable (s : State)

@[simp] theorem withoutRwE_state : (withoutRwE s).state = s.state := rfl
@[simp] theorem withoutRwE_cmd0 : (withoutRwE s).cmd0 = s.cmd0 := rfl
@[simp] theorem withoutRwE_prev : (withoutRwE s).prev = dropRwE s.prev := rfl
@[simp] theorem withoutRwE_prevValid : (withoutRwE s).prevValid = s.prevValid := rfl
@[simp] theorem withoutRwE_rst : (withoutRwE s).rst = s.rst := rfl
@[simp] theorem withoutRwE_rspAlt : (withoutRwE s).rspAlt = s.rspAlt := rfl
@[simp] theorem withoutRwE_rspIdx : (withoutRwE s).rspIdx = s.rspIdx := rfl
@[simp] theorem withoutRwE_rspLv : (withoutRwE s).rspLv = dropRwE s.rspLv := rfl
@[simp] theorem withoutRwE_rsp : (withoutRwE s).rsp = s.rsp.map Response.dropRwE := rfl
@[simp] theorem withoutRwE_minIdx : (withoutRwE s).minIdx = s.minIdx := rfl
@[simp] theorem withoutRwE_inputs : (withoutRwE s).inputs = s.inputs.map Input.dropRwE := rfl
@[simp] theorem withoutRwE_args : (withoutRwE s).args = { s.args with lv := dropRwE s.args.lv } := rfl
@[simp] theorem withoutRwE_request : (withoutRwE s).request = s.request := rfl

end Fields

@[simp] theorem response_dropRwE_dropRwE (r : Response) : r.dropRwE.dropRwE = r.dropRwE := by
  cases r with
  | matched alt idx lv => simp only [Response.dropRwE, dropRwE_dropRwE]
  | endOfStream => rfl

@[simp] theorem input_dropRwE_dropRwE (item : Input) : item.dropRwE.dropRwE = item.dropRwE := by
  cases item with
  | sample lv => simp only [Input.dropRwE, dropRwE_dropRwE]
  | response r => simp only [Input.dropRwE, response_dropRwE_dropRwE]
  | call f w args => simp only [Input.dropRwE, dropRwE_dropRwE]
  | endMark => rfl
  | rstAssert => rfl
  | rstRelease m n d => rfl

@[simp] theorem withoutRwE_withoutRwE (s : State) : withoutRwE (withoutRwE s) = withoutRwE s := by
  simp [withoutRwE, Function.comp_def]

@[simp] theorem withoutRwE_timeRef (s : State) : (withoutRwE s).timeRef = s.timeRef := rfl

/-- The bits of the key are made of the kind, the alternative and the index of a response, and of none of its levels
(R68). -/
theorem key_bits_withoutRwE (s : State) (r : Response) :
    keyEos r.dropRwE = keyEos r ∧ keyAlt r.dropRwE = keyAlt r ∧ keyCls (withoutRwE s) r.dropRwE = keyCls s r ∧
      keyLast (withoutRwE s) r.dropRwE = keyLast s r := by
  simp only [keyCls, keyLast, withoutRwE_state]
  cases r with
  | matched alt idx lv => cases s.state <;> exact ⟨rfl, rfl, rfl, rfl⟩
  | endOfStream => cases s.state <;> exact ⟨rfl, rfl, rfl, rfl⟩

theorem transitionKey_withoutRwE (s : State) (r : Response) :
    transitionKey (withoutRwE s) r.dropRwE = transitionKey s r := by
  obtain ⟨heos, halt, hcls, hlast⟩ := key_bits_withoutRwE s r
  simp only [transitionKey, keyPageok, heos, halt, hcls, hlast, withoutRwE_state, withoutRwE_cmd0]

theorem inDomain_withoutRwE (s : State) (r : Response) : inDomain (withoutRwE s) r.dropRwE = inDomain s r := by
  simp only [inDomain, withoutRwE_timeRef]
  cases r with
  | matched alt idx lv => cases s.timeRef <;> rfl
  | endOfStream => rfl

/-! ### The shared operations -/

theorem emitAll_withoutRwE (evs : List Event) (s : State) :
    emitAll evs (withoutRwE s) = withoutRwE (emitAll evs s) := rfl

theorem reportUnknownPage_withoutRwE (c : Byte) (s : State) :
    reportUnknownPage c (withoutRwE s) = withoutRwE (reportUnknownPage c s) := rfl

theorem renderFrame_withoutRwE (c : Byte) (pay : List Byte) (sel : Bool) (s : State) :
    renderFrame c pay sel (withoutRwE s) = withoutRwE (renderFrame c pay sel s) := by
  unfold renderFrame
  cases pageOf c with
  | some p => exact emitAll_withoutRwE ..
  | none => exact reportUnknownPage_withoutRwE ..

/-- Blanking rw and e before `f` is blanking them in what `f` answers. -/
def Drops (f : State → Res) : Prop := ∀ s, f (withoutRwE s) = seenThrough withoutRwE (f s)

theorem issueRequest_drops (c : BitVec 2) : Drops (issueRequest c) := fun s => by
  simp only [issueRequest, withoutRwE_request, seenThrough_ite]
  rfl

/-! ### The transitions

Each reads, in its own state, a held response, and of its levels at most the byte and the DeviceSelector; it then drops
the response. -/

theorem execFsA_drops : Drops execFsA := fun s => by
  simp only [execFsA, withoutRwE_state, withoutRwE_rsp]
  cases s.state with
  | findStart =>
    rcases s.rsp with _ | ⟨alt, idx, lv⟩ | _
    · rfl
    · simp only [Option.map_some, Response.dropRwE, seenThrough_ite]; rfl
    · rfl
  | _ => rfl

theorem execFsB_drops : Drops execFsB := fun s => by
  simp only [execFsB, withoutRwE_state, withoutRwE_rsp]
  cases s.state with
  | findStart =>
    rcases s.rsp with _ | ⟨alt, idx, lv⟩ | _
    · rfl
    · simp only [Option.map_some, Response.dropRwE, seenThrough_ite]; rfl
    · rfl
  | _ => rfl

/-- The byte is taken from the data lines (R104). -/
theorem execVsAcc_drops : Drops execVsAcc := fun s => by
  simp only [execVsAcc, withoutRwE_state, withoutRwE_rsp]
  cases s.state with
  | verifyStart =>
    rcases s.rsp with _ | ⟨alt, idx, lv⟩ | _
    · rfl
    · simp only [Option.map_some, Response.dropRwE, seenThrough_ite, pack_dropRwE]; rfl
    · rfl
  | _ => rfl

theorem execVsRej_drops : Drops execVsRej := fun s => by
  simp only [execVsRej, withoutRwE_state, withoutRwE_rsp]
  cases s.state with
  | verifyStart =>
    rcases s.rsp with _ | ⟨alt, idx, lv⟩ | _
    · rfl
    · simp only [Option.map_some, Response.dropRwE, seenThrough_ite]; rfl
    · rfl
  | _ => rfl

theorem execNcAcc_drops : Drops execNcAcc := fun s => by
  simp only [execNcAcc, withoutRwE_state, withoutRwE_rsp]
  cases s.state with
  | findNextStartClk =>
    rcases s.rsp with _ | ⟨alt, idx, lv⟩ | _
    · rfl
    · simp only [Option.map_some, Response.dropRwE, seenThrough_ite, pack_dropRwE]; rfl
    · rfl
  | _ => rfl

theorem execNcFin_drops : Drops execNcFin := fun s => by
  simp only [execNcFin, withoutRwE_state, withoutRwE_rsp]
  cases s.state with
  | findNextStartClk =>
    rcases s.rsp with _ | ⟨alt, idx, lv⟩ | _
    · rfl
    · simp only [Option.map_some, Response.dropRwE, seenThrough_ite, pack_dropRwE]; rfl
    · rfl
  | _ => rfl

theorem execNcRej_drops : Drops execNcRej := fun s => by
  simp only [execNcRej, withoutRwE_state, withoutRwE_rsp]
  cases s.state with
  | findNextStartClk =>
    rcases s.rsp with _ | ⟨alt, idx, lv⟩ | _
    · rfl
    · simp only [Option.map_some, Response.dropRwE, seenThrough_ite]; rfl
    · rfl
  | _ => rfl

theorem execRdAcc_drops : Drops execRdAcc := fun s => by
  simp only [execRdAcc, withoutRwE_state, withoutRwE_rsp]
  cases s.state with
  | readData =>
    rcases s.rsp with _ | ⟨alt, idx, lv⟩ | _
    · rfl
    · simp only [Option.map_some, Response.dropRwE, seenThrough_ite, pack_dropRwE]; rfl
    · rfl
  | _ => rfl

/-- The last Sample gives its byte and the DeviceSelector of the render (R110). -/
theorem execRdFin_drops : Drops execRdFin := fun s => by
  simp only [execRdFin, withoutRwE_state, withoutRwE_rsp]
  cases s.state with
  | readData =>
    rcases s.rsp with _ | ⟨alt, idx, lv⟩ | _
    · rfl
    · simp only [Option.map_some, Response.dropRwE, seenThrough_ite, pack_dropRwE, selector_dropRwE,
        renderFrame_withoutRwE]; rfl
    · rfl
  | _ => rfl

theorem execRdBad_drops : Drops execRdBad := fun s => by
  simp only [execRdBad, withoutRwE_state, withoutRwE_rsp]
  cases s.state with
  | readData =>
    rcases s.rsp with _ | ⟨alt, idx, lv⟩ | _
    · rfl
    · simp only [Option.map_some, Response.dropRwE, seenThrough_ite]; rfl
    · rfl
  | _ => rfl

theorem execEos_drops : Drops execEos := fun s => by
  simp only [execEos, withoutRwE_state, withoutRwE_rsp]
  rcases s.rsp with _ | ⟨alt, idx, lv⟩ | _ <;> cases s.state <;> rfl

theorem execHaltNop_drops : Drops execHaltNop := fun s => by
  simp only [execHaltNop, withoutRwE_state]
  cases s.state <;> rfl

/-! ### Responses, the renderer and the pure functions -/

/-- The response that is held is the Sample on the pins (R65). -/
theorem execRspMatch_drops : Drops execRspMatch := fun s => by
  simp only [execRspMatch, withoutRwE_rst, withoutRwE_rsp, withoutRwE_state, withoutRwE_request, withoutRwE_rspAlt,
    withoutRwE_rspLv, withoutRwE_rspIdx, withoutRwE_minIdx, responseFits_dropRwE, Option.isSome_map, seenThrough_ite]
  rfl

theorem execRspEos_drops : Drops execRspEos := fun s => by
  simp only [execRspEos, withoutRwE_rst, withoutRwE_rsp, Option.isSome_map, seenThrough_ite]
  rfl

theorem execCol_drops (v : Byte) : Drops (execCol v) := fun s => by
  simp only [execCol, withoutRwE_args]
  cases pageOf s.args.cmd.b0 with
  | none => rfl
  | some p => rw [seenThrough_ite]; rfl

theorem execPageDecode_drops : Drops execPageDecode := fun s => by
  simp only [execPageDecode, withoutRwE_args]
  cases pageOf s.args.cmd.b0 with
  | none => rfl
  | some p => rfl

theorem execRender_drops : Drops execRender := fun _ => congrArg Host.Outcome.next (renderFrame_withoutRwE ..)

theorem execSetPixel_drops (x : BitVec 9) (y : BitVec 6) (on : Bool) : Drops (execSetPixel x y on) := fun s => by
  simp only [execSetPixel, seenThrough_ite]
  rfl

theorem execError_drops (code : BitVec 3) (info : Byte) : Drops (execError code info) := fun s => by
  simp only [execError, seenThrough_ite]
  rfl

theorem execTimedelta_drops : Drops execTimedelta := fun s => by
  simp only [execTimedelta, seenThrough_ite]
  rfl

theorem execClassifyStart_drops : Drops execClassifyStart := fun s => by
  simp only [execClassifyStart, seenThrough_ite]
  rfl

theorem execClassifyClockPeriod_drops : Drops execClassifyClockPeriod := fun s => by
  simp only [execClassifyClockPeriod, seenThrough_ite]
  rfl

/-- PACK reads the data lines of its operand (R147). -/
theorem execPack_drops : Drops execPack := fun s => by
  simp only [execPack, withoutRwE_args, pack_dropRwE]
  rfl

/-- SEL reads the chip selects of its operand (R115). -/
theorem execSel_drops : Drops execSel := fun s => by
  simp only [execSel, withoutRwE_args, selector_dropRwE]
  rfl

/-! ### Any operation -/

/-- `f` answers the same but for rw and e when they are blanked before. -/
def BlindToRwE (f : State → Res) : Prop :=
  ∀ s, seenThrough withoutRwE (f (withoutRwE s)) = seenThrough withoutRwE (f s)

theorem seenThrough_withoutRwE_idem (o : Res) :
    seenThrough withoutRwE (seenThrough withoutRwE o) = seenThrough withoutRwE o := by
  cases o with
  | next s => exact congrArg Host.Outcome.next (withoutRwE_withoutRwE s)
  | fault e => rfl
  | refused r => rfl

theorem Drops.blind {f : State → Res} (hf : Drops f) : BlindToRwE f := fun s => by
  rw [hf s, seenThrough_withoutRwE_idem]

/-- A reset release overwrites `prev` with a free value, whose rw and e are then the same (R32). -/
theorem withoutRwE_resetRegisters (s : State) :
    withoutRwE (resetRegisters (withoutRwE s)) = withoutRwE (resetRegisters s) := by
  simp [withoutRwE, resetRegisters, Function.comp_def]

theorem execRstOk_blind : BlindToRwE execRstOk := fun s => by
  simp only [execRstOk, seenThrough_ite, seenThrough_next, withoutRwE_resetRegisters]
  rfl

theorem execRstCfgerr_blind : BlindToRwE execRstCfgerr := fun s => by
  have hreset (t : State) : withoutRwE (raiseError .channelConfiguration 0 t) =
      raiseError .channelConfiguration 0 (withoutRwE t) := rfl
  simp only [execRstCfgerr, seenThrough_ite, seenThrough_next, hreset, withoutRwE_resetRegisters]
  rfl

/-- No operation but MATCH_PATTERN, whose operand names the channels, reads rw or e (R156). -/
theorem exec_blind {i : Instr} (hi : i ≠ .matchPattern) : BlindToRwE (exec i) := by
  cases i with
  | fsA => exact execFsA_drops.blind
  | fsB => exact execFsB_drops.blind
  | vsAcc => exact execVsAcc_drops.blind
  | vsRej => exact execVsRej_drops.blind
  | ncAcc => exact execNcAcc_drops.blind
  | ncFin => exact execNcFin_drops.blind
  | ncRej => exact execNcRej_drops.blind
  | rdAcc => exact execRdAcc_drops.blind
  | rdFin => exact execRdFin_drops.blind
  | rdBad => exact execRdBad_drops.blind
  | eos => exact execEos_drops.blind
  | haltNop => exact execHaltNop_drops.blind
  | rstOk => exact execRstOk_blind
  | rstCfgerr => exact execRstCfgerr_blind
  | setpage p c a => exact Drops.blind fun _ => rfl
  | col v => exact (execCol_drops v).blind
  | reqNone => exact (issueRequest_drops 0).blind
  | reqStart => exact (issueRequest_drops 1).blind
  | reqClk1 => exact (issueRequest_drops 2).blind
  | reqClk2 => exact (issueRequest_drops 3).blind
  | rspMatch => exact execRspMatch_drops.blind
  | rspEos => exact execRspEos_drops.blind
  | setPixel x y on => exact (execSetPixel_drops x y on).blind
  | present => exact Drops.blind fun _ => rfl
  | record page device => exact Drops.blind fun _ => rfl
  | error code info => exact (execError_drops code info).blind
  | timedelta => exact execTimedelta_drops.blind
  | classifyStart => exact execClassifyStart_drops.blind
  | classifyClockPeriod => exact execClassifyClockPeriod_drops.blind
  | pack => exact execPack_drops.blind
  | sel => exact execSel_drops.blind
  | pageDecode => exact execPageDecode_drops.blind
  | render => exact execRender_drops.blind
  | matchPattern => exact absurd rfl hi

/-- The wait after an operation depends on `state` and `track` (R25, R100). -/
theorem issueWait_withoutRwE (o : Res) :
    issueWait (seenThrough withoutRwE o) = seenThrough withoutRwE (issueWait o) := by
  cases o with
  | next s =>
    rw [seenThrough_next, issueWait_next, issueWait_next]
    rfl
  | fault e => rfl
  | refused r => rfl

/-! ### Fetching -/

/-- What fetching answers, with rw and e blanked in every state of it. -/
def fetchedWithoutRwE : Fetched → Fetched
  | .done o => .done (seenThrough withoutRwE o)
  | .run i s => .run i (withoutRwE s)

/-- The selection by key reads no level (R68). -/
theorem selectOp_withoutRwE (s : State) : selectOp (withoutRwE s) = fetchedWithoutRwE (selectOp s) := by
  simp only [selectOp, withoutRwE_rsp]
  cases s.rsp with
  | none => rfl
  | some r =>
    simp only [Option.map_some, inDomain_withoutRwE, transitionKey_withoutRwE]
    split
    case isTrue =>
      cases decode .tk (transitionKey s r).toNat with
      | ok i => rfl
      | error e => rfl
    case isFalse => rfl

theorem deliver_withoutRwE (o : Res) :
    deliver (seenThrough withoutRwE o) = fetchedWithoutRwE (deliver o) := by
  cases o with
  | next s => exact selectOp_withoutRwE s
  | fault e => rfl
  | refused r => rfl

theorem Drops.deliver {f : State → Res} (hf : Drops f) (s : State) :
    deliver (f (withoutRwE s)) = fetchedWithoutRwE (deliver (f s)) := by
  rw [hf s, deliver_withoutRwE]

/-- A test that reads neither rw nor e takes the same branch. -/
theorem ite_fetchedWithoutRwE {c : Prop} [Decidable c] {x y x' y' : Fetched} (hx : x' = fetchedWithoutRwE x)
    (hy : y' = fetchedWithoutRwE y) : (if c then x' else y') = fetchedWithoutRwE (if c then x else y) := by
  rw [hx, hy, apply_ite fetchedWithoutRwE]

/-- The front-end matches without rw and e, and remembers the Sample (R141). -/
theorem frontEndSample_withoutRwE (lv : Levels) (s : State) :
    frontEndSample (dropRwE lv) (withoutRwE s) = fetchedWithoutRwE (frontEndSample lv s) := by
  refine ite_fetchedWithoutRwE rfl ?_
  simp only [withoutRwE_request, withoutRwE_prevValid, withoutRwE_prev, firstMatch_dropRwE]
  cases firstMatch (patternSet s.request) s.prevValid s.prev lv with
  | none => rfl
  | some alt => exact execRspMatch_drops.deliver (drivePins alt s.nextIdx lv (acceptSample lv s))

theorem frontEndEnd_withoutRwE (s : State) : frontEndEnd (withoutRwE s) = fetchedWithoutRwE (frontEndEnd s) :=
  ite_fetchedWithoutRwE rfl (execRspEos_drops.deliver { s with eosSeen := true })

theorem handIn_withoutRwE (r : Response) (s : State) :
    handIn r.dropRwE (withoutRwE s) = fetchedWithoutRwE (handIn r s) := by
  cases r with
  | matched alt idx lv => exact execRspMatch_drops.deliver { s with rspAlt := alt, rspIdx := idx, rspLv := lv }
  | endOfStream => exact execRspEos_drops.deliver s

theorem directCall_withoutRwE (f : Format) (w : Nat) (args : Args) (s : State) :
    directCall f w { args with lv := dropRwE args.lv } (withoutRwE s) = fetchedWithoutRwE (directCall f w args s) := by
  refine ite_fetchedWithoutRwE rfl ?_
  cases decode f w with
  | ok i => rfl
  | error e => rfl

/-- An item with rw and e blanked is taken as the item is (R156). -/
theorem accept_withoutRwE (item : Input) (s : State) :
    accept item.dropRwE (withoutRwE s) = fetchedWithoutRwE (accept item s) := by
  cases item with
  | sample lv => exact ite_fetchedWithoutRwE (frontEndSample_withoutRwE lv s) rfl
  | endMark => exact ite_fetchedWithoutRwE (frontEndEnd_withoutRwE s) rfl
  | response r => exact ite_fetchedWithoutRwE (handIn_withoutRwE r s) rfl
  | rstAssert => rfl
  | rstRelease m n d => rfl
  | call f w args => exact directCall_withoutRwE f w args s

/-- The 1-bit key of a reset release (R69). -/
theorem releaseOp_eq (s : State) : releaseOp s = .run (if cfgOk s.chMask then .rstOk else .rstCfgerr) s := by
  unfold releaseOp
  cases cfgOk s.chMask with
  | true => rfl
  | false => rfl

/-- Only the reset line is looked at, and it carries no levels (R185). -/
theorem fetchInReset_withoutRwE (s : State) : fetchInReset (withoutRwE s) = fetchedWithoutRwE (fetchInReset s) := by
  simp only [fetchInReset, withoutRwE_inputs]
  rcases s.inputs with _ | ⟨item, rest⟩
  · rfl
  · cases item with
    | rstRelease m n d => simp only [List.map_cons, Input.dropRwE, releaseOp_eq]; rfl
    | _ => rfl

/-- Out of reset an item that is not a reset assertion waits behind a held response. -/
theorem fetch_of_item {s : State} {item : Input} {rest : List Input} (hrst : s.rst = false)
    (hin : s.inputs = item :: rest) (hitem : item ≠ .rstAssert) :
    fetch s = if s.rsp.isSome then selectOp s else accept item { s with inputs := rest } := by
  cases item with
  | rstAssert => exact absurd rfl hitem
  | _ => simp only [fetch, hrst, hin]; rfl

theorem dropRwE_ne_rstAssert {item : Input} (hitem : item ≠ .rstAssert) : item.dropRwE ≠ .rstAssert := by
  cases item with
  | rstAssert => exact absurd rfl hitem
  | _ => exact nofun

/-- Fetching reads neither rw nor e (R156). -/
theorem fetch_withoutRwE (s : State) : fetch (withoutRwE s) = fetchedWithoutRwE (fetch s) := by
  cases hrst : s.rst with
  | true => simp only [fetch, withoutRwE_rst, hrst, if_true, fetchInReset_withoutRwE]
  | false =>
    rcases hin : s.inputs with _ | ⟨item, rest⟩
    · simp only [fetch, withoutRwE_rst, hrst, withoutRwE_inputs, hin, List.map_nil]
      exact selectOp_withoutRwE s
    · by_cases hitem : item = .rstAssert
      · simp only [fetch, withoutRwE_rst, hrst, withoutRwE_inputs, hin, List.map_cons, hitem, Input.dropRwE]
        rfl
      · have hin' : (withoutRwE s).inputs = item.dropRwE :: rest.map Input.dropRwE :=
          congrArg (List.map Input.dropRwE) hin
        rw [fetch_of_item hrst hin hitem, fetch_of_item (s := withoutRwE s) hrst hin' (dropRwE_ne_rstAssert hitem),
          withoutRwE_rsp, Option.isSome_map]
        exact ite_fetchedWithoutRwE (selectOp_withoutRwE s) (accept_withoutRwE item { s with inputs := rest })

/-! ### The operations that are fetched -/

/-- A transition key selects a transition (R69). -/
theorem decodeTk_format {k : Key} {i : Instr} (h : decodeTk k = .ok i) : i.format = .tk := by
  have hrows : ∀ r ∈ tkRows, r.instr.format = .tk := by decide
  unfold decodeTk at h
  split at h
  case h_1 r hr => cases h; exact hrows r (List.mem_of_find?_eq_some hr)
  case h_2 => cases h

theorem decodeRst_format : ∀ b : BitVec 1, (decodeRst b).format = .rst := by decide
theorem decodeReq_format : ∀ b : BitVec 2, (decodeReq b).format = .req := by decide
theorem decodeRsp_format : ∀ b : BitVec 1, (decodeRsp b).format = .rsp := by decide
theorem decodeFn_format : ∀ b : BitVec 3, (decodeFn b).format = .fn := by decide

theorem decodeCmd_format {w : BitVec 24} {i : Instr} (h : decodeCmd w = .ok i) : i.format = .cmd := by
  unfold decodeCmd at h
  split at h
  · cases h; rfl
  · cases h

theorem decodeEv_format {e : BitVec 18} {i : Instr} (h : decodeEv e = .ok i) : i.format = .ev := by
  unfold decodeEv at h
  split_ifs at h <;> cases h <;> rfl

/-- An operation is of the format it was read in (R83). -/
theorem decode_format {f : Format} {w : Nat} {i : Instr} (h : decode f w = .ok i) : i.format = f := by
  unfold decode at h
  split at h
  case isTrue => cases h
  case isFalse =>
    cases f with
    | tk => exact decodeTk_format h
    | rst => cases h; exact decodeRst_format _
    | cmd => exact decodeCmd_format h
    | col => cases h; rfl
    | req => cases h; exact decodeReq_format _
    | rsp => cases h; exact decodeRsp_format _
    | ev => exact decodeEv_format h
    | fn => cases h; exact decodeFn_format _

theorem lt_of_decode_ok {f : Format} {w : Nat} {i : Instr} (h : decode f w = .ok i) : w < 2 ^ f.width := by
  unfold decode at h
  split at h
  case isTrue => cases h
  case isFalse hfits => exact Nat.lt_of_not_le hfits

/-- MATCH_PATTERN has one word: 7, in format FN (R83). -/
theorem decode_matchPattern {f : Format} {w : Nat} (h : decode f w = .ok .matchPattern) : f = .fn ∧ w = 7 := by
  have hf : Format.fn = f := decode_format h
  subst hf
  have hseven : ∀ w < 8, (decode .fn w).toOption = some .matchPattern → w = 7 := by decide
  exact ⟨rfl, hseven w (lt_of_decode_ok h) (by rw [h]; rfl)⟩

/-! ### What answers the wait (R100)

An item of the stream and a response, once taken, leave the host's side as it is; the operation they select is a
transition, which consumes the response. -/

/-- `t` waits again, with the host's side of `s`. -/
def WaitsAgain (s t : State) : Prop := t.rsp = none ∧ t.inputs = s.inputs ∧ t.args = s.args

/-- What taking an answer of the wait comes to: nothing is selected, or a transition is. -/
def TakesAnswer (s : State) : Fetched → Prop
  | .done (.next t) => WaitsAgain s t
  | .done (.fault _) => True
  | .done (.refused _) => True
  | .run i u => i.format = .tk ∧ u.inputs = s.inputs ∧ u.args = s.args

theorem selectOp_run_tk {s u : State} {i : Instr} (h : selectOp s = .run i u) : i.format = .tk ∧ u = s := by
  obtain ⟨hu, r, -, -, hdecode⟩ := selectOp_run h
  exact ⟨decode_format hdecode, hu⟩

theorem selectOp_takesAnswer (s : State) : TakesAnswer s (selectOp s) := by
  cases h : selectOp s with
  | run i u =>
    obtain ⟨hi, rfl⟩ := selectOp_run_tk h
    exact ⟨hi, rfl, rfl⟩
  | done o =>
    cases o with
    | next t =>
      obtain ⟨hrsp, rfl⟩ := selectOp_next h
      exact ⟨hrsp, rfl, rfl⟩
    | fault e => trivial
    | refused r => trivial

theorem deliver_rspMatch_takesAnswer (s : State) : TakesAnswer s (deliver (execRspMatch s)) := by
  cases h : execRspMatch s with
  | next t =>
    obtain ⟨-, -, ⟨-, rfl⟩ | ⟨-, -, -, rfl⟩⟩ := execRspMatch_next h
    · exact selectOp_takesAnswer { s with rsp := some (.matched s.rspAlt s.rspIdx s.rspLv) }
    · exact selectOp_takesAnswer { s with rsp := some (.matched s.rspAlt s.rspIdx s.rspLv), minIdx := s.rspIdx + 1 }
  | fault e => trivial
  | refused r => trivial

theorem deliver_rspEos_takesAnswer (s : State) : TakesAnswer s (deliver (execRspEos s)) := by
  cases h : execRspEos s with
  | next t =>
    obtain ⟨-, -, rfl⟩ := execRspEos_next h
    exact selectOp_takesAnswer { s with rsp := some .endOfStream }
  | fault e => trivial
  | refused r => trivial

theorem frontEndSample_takesAnswer (lv : Levels) {s : State} (hrsp : s.rsp = none) :
    TakesAnswer s (frontEndSample lv s) := by
  unfold frontEndSample
  split
  · exact ⟨hrsp, rfl, rfl⟩
  · split
    · exact ⟨hrsp, rfl, rfl⟩
    · exact deliver_rspMatch_takesAnswer (drivePins _ s.nextIdx lv (acceptSample lv s))

theorem frontEndEnd_takesAnswer {s : State} (hrsp : s.rsp = none) : TakesAnswer s (frontEndEnd s) := by
  unfold frontEndEnd
  split
  · exact ⟨hrsp, rfl, rfl⟩
  · exact deliver_rspEos_takesAnswer { s with eosSeen := true }

theorem handIn_takesAnswer (r : Response) (s : State) : TakesAnswer s (handIn r s) := by
  cases r with
  | matched alt idx lv => exact deliver_rspMatch_takesAnswer { s with rspAlt := alt, rspIdx := idx, rspLv := lv }
  | endOfStream => exact deliver_rspEos_takesAnswer s

/-- Of the items only a direct call brings an operation other than a transition. -/
theorem accept_takesAnswer {item : Input} {s : State} (hrsp : s.rsp = none)
    (hcall : ∀ f w args, item ≠ .call f w args) : TakesAnswer s (accept item s) := by
  cases item with
  | sample lv =>
    simp only [accept]
    split
    · exact frontEndSample_takesAnswer lv hrsp
    · trivial
  | endMark =>
    simp only [accept]
    split
    · exact frontEndEnd_takesAnswer hrsp
    · trivial
  | response r =>
    simp only [accept]
    split
    · exact handIn_takesAnswer r s
    · trivial
  | rstAssert => exact ⟨rfl, rfl, rfl⟩
  | rstRelease m n d => trivial
  | call f w args => exact absurd rfl (hcall f w args)

theorem accept_run_tk {item : Input} {s u : State} {i : Instr} (hrsp : s.rsp = none)
    (h : accept item s = .run i u) (hcall : ∀ f w args, item ≠ .call f w args) : i.format = .tk := by
  have htake := accept_takesAnswer hrsp hcall
  rw [h] at htake
  obtain ⟨hi, -, -⟩ := htake
  exact hi

/-- A transition consumes the response and leaves the host's side as it is (R100). -/
theorem exec_tk_next {i : Instr} {s t : State} (hi : i.format = .tk) (h : exec i s = .next t) : WaitsAgain s t := by
  cases i with
  | fsA => obtain ⟨-, _, _, -, rfl⟩ := execFsA_next h; exact ⟨rfl, rfl, rfl⟩
  | fsB => obtain ⟨-, _, _, -, rfl⟩ := execFsB_next h; exact ⟨rfl, rfl, rfl⟩
  | vsAcc => obtain ⟨-, _, _, _, -, -, -, rfl⟩ := execVsAcc_next h; exact ⟨rfl, rfl, rfl⟩
  | vsRej => obtain ⟨-, _, _, _, -, -, -, rfl⟩ := execVsRej_next h; exact ⟨rfl, rfl, rfl⟩
  | ncAcc => obtain ⟨-, _, _, _, -, -, -, -, rfl⟩ := execNcAcc_next h; exact ⟨rfl, rfl, rfl⟩
  | ncFin => obtain ⟨-, _, _, _, -, -, -, -, rfl⟩ := execNcFin_next h; exact ⟨rfl, rfl, rfl⟩
  | ncRej => obtain ⟨-, _, _, _, -, -, -, rfl⟩ := execNcRej_next h; exact ⟨rfl, rfl, rfl⟩
  | rdAcc => obtain ⟨-, _, _, _, -, -, rfl⟩ := execRdAcc_next h; exact ⟨rfl, rfl, rfl⟩
  | rdFin => obtain ⟨-, _, _, _, _, -, -, -, rfl⟩ := execRdFin_next h; exact ⟨rfl, rfl, rfl⟩
  | rdBad => obtain ⟨-, _, _, _, -, -, -, rfl⟩ := execRdBad_next h; exact ⟨rfl, rfl, rfl⟩
  | eos => obtain ⟨-, -, rfl⟩ := execEos_next h; exact ⟨rfl, rfl, rfl⟩
  | haltNop => obtain ⟨-, rfl⟩ := execHaltNop_next h; exact ⟨rfl, rfl, rfl⟩
  | _ => cases hi

/-- Out of reset, with no response held, the item at the head is taken. -/
theorem fetch_of_no_response {s : State} {item : Input} {rest : List Input} (hrst : s.rst = false) (hrsp : s.rsp = none)
    (hin : s.inputs = item :: rest) : fetch s = accept item { s with inputs := rest } := by
  cases item with
  | rstAssert => simp only [fetch, hrst, hin]; rfl
  | _ => simp only [fetch, hrst, hin, hrsp]; rfl

/-- A step that takes an item other than a direct call ends in a wait with the items behind it still to come. -/
theorem step_next_of_item {s t : State} {item : Input} {rest : List Input} (hrst : s.rst = false) (hrsp : s.rsp = none)
    (hin : s.inputs = item :: rest) (hcall : ∀ f w args, item ≠ .call f w args) (h : step s = .next t) :
    WaitsAgain { s with inputs := rest } t := by
  have htake : TakesAnswer { s with inputs := rest } (fetch s) := by
    rw [fetch_of_no_response hrst hrsp hin]
    exact accept_takesAnswer hrsp hcall
  rcases step_next h with hdone | ⟨i, u, v, hrun, hexec, rfl⟩
  · rw [hdone] at htake
    exact htake
  · rw [hrun] at htake
    obtain ⟨hi, hinputs, hargs⟩ := htake
    obtain ⟨hnone, hinputs', hargs'⟩ := exec_tk_next hi hexec
    exact ⟨hnone, hinputs'.trans hinputs, hargs'.trans hargs⟩

/-! ### Where MATCH_PATTERN comes from -/

theorem fetchInReset_run {s u : State} {i : Instr} (h : fetchInReset s = .run i u) : i.format = .rst := by
  unfold fetchInReset at h
  split at h
  case h_1 =>
    rw [releaseOp_eq] at h
    obtain ⟨rfl, -⟩ := Fetched.run.inj h
    split <;> rfl
  case h_2 => cases h
  case h_3 => cases h

/-- Out of reset an operation comes from a held response or from the item at the head. -/
theorem fetch_run {s u : State} {i : Instr} (hrst : s.rst = false) (h : fetch s = .run i u) :
    selectOp s = .run i u ∨
      ∃ item rest, s.inputs = item :: rest ∧ s.rsp = none ∧ accept item { s with inputs := rest } = .run i u := by
  rw [fetch, if_neg (by simp [hrst])] at h
  split at h
  case h_1 => cases h
  case h_2 => exact .inl h
  case h_3 item rest _ hin =>
    split at h
    case isTrue => exact .inl h
    case isFalse hnone => exact .inr ⟨item, rest, hin, by simpa using hnone, h⟩

theorem directCall_run {f : Format} {w : Nat} {args : Args} {s u : State} {i : Instr}
    (h : directCall f w args s = .run i u) : decode f w = .ok i := by
  unfold directCall at h
  split at h
  case isTrue => cases h
  case isFalse =>
    split at h
    case h_1 hdecode => cases h; exact hdecode
    case h_2 => cases h

/-- MATCH_PATTERN runs by a direct call alone. -/
theorem inputs_of_fetch_matchPattern {s u : State} (h : fetch s = .run .matchPattern u) :
    ∃ args rest, s.inputs = .call .fn 7 args :: rest := by
  cases hrst : s.rst with
  | true =>
    simp only [fetch, hrst, if_true] at h
    cases fetchInReset_run h
  | false =>
    rcases fetch_run hrst h with hselect | ⟨item, rest, hin, hrsp, haccept⟩
    · cases (selectOp_run_tk hselect).1
    · cases item with
      | call f w args =>
        obtain ⟨rfl, rfl⟩ := decode_matchPattern (directCall_run haccept)
        exact ⟨args, rest, hin⟩
      | _ => cases accept_run_tk (s := { s with inputs := rest }) hrsp haccept nofun

/-! ### The step -/

/-- States that differ only in rw and e step to states that differ only so, unless MATCH_PATTERN is called: both fetch
one operation, which reads neither. -/
theorem step_congr {s s' : State} (h : withoutRwE s = withoutRwE s')
    (hcall : ∀ args rest, s.inputs ≠ .call .fn 7 args :: rest) :
    seenThrough withoutRwE (step s) = seenThrough withoutRwE (step s') := by
  have hf : fetchedWithoutRwE (fetch s) = fetchedWithoutRwE (fetch s') := by
    rw [← fetch_withoutRwE, h, fetch_withoutRwE]
  cases hx : fetch s with
  | done o =>
    cases hy : fetch s' with
    | done o' =>
      rw [hx, hy] at hf
      simp only [step, hx, hy]
      exact Fetched.done.inj hf
    | run i t => rw [hx, hy] at hf; cases hf
  | run i t =>
    cases hy : fetch s' with
    | done o => rw [hx, hy] at hf; cases hf
    | run i' t' =>
      rw [hx, hy] at hf
      obtain ⟨rfl, ht⟩ := Fetched.run.inj hf
      have hi : i ≠ .matchPattern := by
        rintro rfl
        obtain ⟨args, rest, hin⟩ := inputs_of_fetch_matchPattern hx
        exact hcall args rest hin
      have hexec : seenThrough withoutRwE (exec i t) = seenThrough withoutRwE (exec i t') := by
        rw [← exec_blind hi t, ht, exec_blind hi t']
      rw [step_of_run hx, step_of_run hy, ← issueWait_withoutRwE, hexec, issueWait_withoutRwE]

/-- Waiting again with one host's side, states that differ only in rw and e differ only in the levels that `prev` and the
response pins hold. -/
theorem levelless_eq {s t t' : State} (h : withoutRwE t = withoutRwE t') (ht : WaitsAgain s t) (ht' : WaitsAgain s t') :
    levelless t = levelless t' := by
  obtain ⟨hrsp, hin, hargs⟩ := ht
  obtain ⟨hrsp', hin', hargs'⟩ := ht'
  have hview (u : State) :
      levelless u = { levelless (withoutRwE u) with rsp := u.rsp, inputs := u.inputs, args := u.args } := rfl
  rw [hview t, hview t', h, hrsp, hin, hargs, hrsp', hin', hargs']

/-- So do outcomes. -/
theorem seenThrough_levelless_eq {s : State} {o o' : Res} (h : seenThrough withoutRwE o = seenThrough withoutRwE o')
    (ho : ∀ t, o = .next t → WaitsAgain s t) (ho' : ∀ t, o' = .next t → WaitsAgain s t) :
    seenThrough levelless o = seenThrough levelless o' := by
  cases o with
  | next t =>
    cases o' with
    | next t' => exact congrArg Host.Outcome.next (levelless_eq (Host.Outcome.next.inj h) (ho t rfl) (ho' t' rfl))
    | fault e => cases h
    | refused r => cases h
  | fault e =>
    cases o' with
    | next t => cases h
    | fault e' => exact h
    | refused r => cases h
  | refused r =>
    cases o' with
    | next t => cases h
    | fault e => cases h
    | refused r' => exact h

/-- Two items that differ only in rw and e, taken in one state, have the same outcome up to what `prev` and the response
pins keep of them. -/
theorem step_levelless_eq {s : State} {item item' : Input} (rest : List Input) (hrst : s.rst = false)
    (hrsp : s.rsp = none) (hsame : item.dropRwE = item'.dropRwE) (hcall : ∀ f w args, item ≠ .call f w args)
    (hcall' : ∀ f w args, item' ≠ .call f w args) :
    seenThrough levelless (step { s with inputs := item :: rest }) =
      seenThrough levelless (step { s with inputs := item' :: rest }) := by
  have hview : withoutRwE { s with inputs := item :: rest } = withoutRwE { s with inputs := item' :: rest } := by
    simp only [withoutRwE, List.map_cons, hsame]
  have hstep := step_congr hview fun args rest' hin => hcall _ _ _ (List.cons.inj hin).1
  exact seenThrough_levelless_eq hstep
    (fun _ => step_next_of_item (s := { s with inputs := item :: rest }) hrst hrsp rfl hcall)
    (fun _ => step_next_of_item (s := { s with inputs := item' :: rest }) hrst hrsp rfl hcall')

/-- Settles O51: what is kept of rw and e changes nothing later by `step_congr`; and a Sample or a response that has been
taken is kept in `prev` and on the response pins alone, because the transition it selects drops it. -/
theorem rwAndELevelsIgnored : Obligations.RwAndELevelsIgnored := by
  unfold Obligations.RwAndELevelsIgnored
  refine ⟨fun s lv lv' alt idx rest hrst hrsp hsame => ?_, fun s s' => step_congr⟩
  have hlevels : dropRwE lv = dropRwE lv' := (sameButRwE_iff lv lv').1 hsame
  constructor
  · exact step_levelless_eq rest hrst hrsp (congrArg Input.sample hlevels) nofun nofun
  · exact step_levelless_eq rest hrst hrsp (congrArg (fun l => Input.response (.matched alt idx l)) hlevels) nofun nofun

end Sys2Proof.Machine.RwAndE

namespace Sys2Proof.Machine.FirstSample

open RwAndE (fetch_of_no_response)

/-! R205: every pattern that CORE issues has an edge predicate on some channel, and no edge holds without a Sample before
(R142), so at the first Sample the front-end finds no match and only remembers the Sample (R141, R145). -/

/-! ### No edge without a Sample before (R142) -/

/-- A pattern with a rising or a falling edge predicate on some channel (R62). -/
def AsksEdge (p : Pattern) : Prop := ∃ k < nChannels, patCode p k = 3 ∨ patCode p k = 4

/-- Every pattern that CORE issues asks for an edge: a hand-over on cs1, a clock pattern on clk (R63). -/
theorem patternSet_asksEdge {req : BitVec 2} {p : Pattern} (hp : p ∈ patternSet req) : AsksEdge p := by
  rcases two_bit_cases req with rfl | rfl | rfl | rfl
  · cases hp
  · rcases List.mem_pair.1 hp with rfl | rfl
    · exact ⟨0, by decide, .inl (by decide)⟩
    · exact ⟨0, by decide, .inr (by decide)⟩
  · cases List.mem_singleton.1 hp
    exact ⟨2, by decide, .inl (by decide)⟩
  · cases List.mem_singleton.1 hp
    exact ⟨2, by decide, .inl (by decide)⟩

theorem predicateHolds_edge_of_not_prevValid {code : Nat} (hcode : code = 3 ∨ code = 4) (before now : Bool) :
    predicateHolds code false before now = false := by
  rcases hcode with rfl | rfl <;> rfl

theorem AsksEdge.matchPattern_of_not_prevValid {p : Pattern} (hp : AsksEdge p) (prev lv : Levels) :
    matchPattern p false prev lv = false := by
  obtain ⟨k, hk, hcode⟩ := hp
  have hfails := predicateHolds_edge_of_not_prevValid hcode (prev.getLsbD k) (lv.getLsbD k)
  exact List.all_eq_false.2 ⟨k, List.mem_range.2 hk, Bool.eq_false_iff.1 hfails⟩

/-- While no Sample is remembered, no alternative of any request matches. -/
theorem firstMatch_of_not_prevValid (req : BitVec 2) (prev lv : Levels) :
    firstMatch (patternSet req) false prev lv = none :=
  List.findIdx?_eq_none_iff.2 fun _ hp => (patternSet_asksEdge hp).matchPattern_of_not_prevValid prev lv

/-! ### A Sample that matches nothing (R141) -/

/-- Before the end and out of HALTED, the front-end keeps a Sample that matches nothing to itself. -/
theorem frontEndSample_of_no_match {s : State} {lv : Levels} (heos : s.eosSeen = false) (hstate : s.state ≠ .halted)
    (hnone : firstMatch (patternSet s.request) s.prevValid s.prev lv = none) :
    frontEndSample lv s = .done (.next (acceptSample lv s)) := by
  simp [frontEndSample, heos, hstate, hnone]

/-- At level B a Sample at the head goes to the front-end. -/
theorem fetch_sample_levelB {s : State} {lv : Levels} {rest : List Input} (hrst : s.rst = false) (hrsp : s.rsp = none)
    (hport : s.portLevel = .levelB) (hin : s.inputs = .sample lv :: rest) :
    fetch s = frontEndSample lv { s with inputs := rest } :=
  (fetch_of_no_response hrst hrsp hin).trans (if_pos hport)

/-- What fetching ends in is the step. -/
theorem step_of_done {s : State} {o : Res} (hf : fetch s = .done o) : step s = o := by
  unfold step; rw [hf]

/-- Settles O50: with no Sample before, no edge holds, so `firstMatch` finds nothing and the Sample is only remembered. -/
theorem firstSampleMatchesNothing : Obligations.FirstSampleMatchesNothing := by
  unfold Obligations.FirstSampleMatchesNothing
  intro s lv rest hrst hrsp hport heos hstate hvalid hin
  have hnone : firstMatch (patternSet s.request) s.prevValid s.prev lv = none := by
    rw [hvalid]; exact firstMatch_of_not_prevValid s.request s.prev lv
  have hfetch : fetch s = .done (.next (acceptSample lv { s with inputs := rest })) :=
    (fetch_sample_levelB hrst hrsp hport hin).trans (frontEndSample_of_no_match heos hstate hnone)
  exact step_of_done hfetch

end Sys2Proof.Machine.FirstSample

namespace Sys2Proof.Machine.Encodings

open RwAndE (decode_format lt_of_decode_ok)

/-! R64 to R83: the two directions of the encoding. A word with fields is the concatenation of the fields that its decoder
reads out, in both directions; a word without fields is one of a short list. -/

/-! ### Reading a word that fits its format -/

theorem decode_cmd_toNat (w : BitVec 24) : decode .cmd w.toNat = decodeCmd w := by
  have hwidth : ¬ 2 ^ Format.cmd.width ≤ w.toNat := Nat.not_le_of_lt w.isLt
  rw [decode, if_neg hwidth]
  simp only [BitVec.ofNat_toNat, BitVec.setWidth_eq]

theorem decode_ev_toNat (e : BitVec 18) : decode .ev e.toNat = decodeEv e := by
  have hwidth : ¬ 2 ^ Format.ev.width ≤ e.toNat := Nat.not_le_of_lt e.isLt
  rw [decode, if_neg hwidth]
  simp only [BitVec.ofNat_toNat, BitVec.setWidth_eq]

theorem decode_col_toNat (v : Byte) : decode .col v.toNat = .ok (.col v) := by
  have hwidth : ¬ 2 ^ Format.col.width ≤ v.toNat := Nat.not_le_of_lt v.isLt
  rw [decode, if_neg hwidth]
  simp only [BitVec.ofNat_toNat, BitVec.setWidth_eq]

/-! ### Format CMD (R71) -/

/-- The mask test of the decoder is the test of the five highest bits. -/
theorem cmd_legal_iff (w : BitVec 24) : w &&& 0xF80000 = 0xB00000 ↔ w.extractLsb' 19 5 = 0b10110#5 := by
  have hsplit : w.extractLsb' 19 5 ++ w.extractLsb' 0 19 = w := by
    rw [BitVec.extractLsb'_append_extractLsb'_eq_extractLsb' (by decide), BitVec.extractLsb'_eq_self]
  have hmask : w &&& 0xF80000 = w.extractLsb' 19 5 ++ 0#19 := by
    have hconst : (0xF80000 : BitVec 24) = BitVec.allOnes 5 ++ 0#19 := by decide
    conv_lhs => rw [← hsplit, hconst, BitVec.and_append, BitVec.and_allOnes, BitVec.and_zero]
  have hcode : (0xB00000 : BitVec 24) = 0b10110#5 ++ 0#19 := by decide
  rw [hmask, hcode, BitVec.append_left_inj]

theorem decodeCmd_setpage (p : BitVec 3) (c a : Byte) :
    decodeCmd (0b10110#5 ++ p ++ c ++ a) = .ok (.setpage p c a) := by
  have hlegal : (0b10110#5 ++ p ++ c ++ a).extractLsb' 19 5 = 0b10110#5 := by
    rw [BitVec.extractLsb'_append_eq_of_le (by decide), BitVec.extractLsb'_append_eq_of_le (by decide),
      BitVec.extractLsb'_append_eq_left]
  have hp : (0b10110#5 ++ p ++ c ++ a).extractLsb' 16 3 = p := by
    rw [BitVec.extractLsb'_append_eq_of_le (by decide), BitVec.extractLsb'_append_eq_of_le (by decide),
      BitVec.extractLsb'_append_eq_right]
  have hc : (0b10110#5 ++ p ++ c ++ a).extractLsb' 8 8 = c := by
    rw [BitVec.extractLsb'_append_eq_of_le (by decide), BitVec.extractLsb'_append_eq_right]
  have ha : (0b10110#5 ++ p ++ c ++ a).extractLsb' 0 8 = a := BitVec.extractLsb'_append_eq_right
  rw [decodeCmd, if_pos ((cmd_legal_iff _).2 hlegal)]
  simp only [hp, hc, ha]

theorem encode_of_decodeCmd {w : BitVec 24} {i : Instr} (h : decodeCmd w = .ok i) :
    i.wellFormed = true ∧ encode i = w.toNat := by
  unfold decodeCmd at h
  split at h
  case isTrue hlegal =>
    cases h
    refine ⟨rfl, congrArg BitVec.toNat ?_⟩
    rw [← (cmd_legal_iff w).1 hlegal, BitVec.extractLsb'_append_extractLsb'_eq_extractLsb' (by decide),
      BitVec.extractLsb'_append_extractLsb'_eq_extractLsb' (by decide),
      BitVec.extractLsb'_append_extractLsb'_eq_extractLsb' (by decide), BitVec.extractLsb'_eq_self]
  case isFalse => cases h

/-! ### Format EV (R77) -/

/-- A one-bit field is the bit. -/
theorem extractLsb'_one {n : Nat} (w : BitVec n) (k : Nat) : w.extractLsb' k 1 = BitVec.ofBool (w.getLsbD k) := by
  refine BitVec.eq_of_getLsbD_eq fun i hi => ?_
  obtain rfl : i = 0 := by omega
  simp

theorem decodeEv_setPixel {x : BitVec 9} (y : BitVec 6) (on : Bool) (hx : x.toNat < 264) :
    decodeEv (0b00#2 ++ x ++ y ++ BitVec.ofBool on) = .ok (.setPixel x y on) := by
  have hkind : (0b00#2 ++ x ++ y ++ BitVec.ofBool on).extractLsb' 16 2 = 0 := by
    rw [BitVec.extractLsb'_append_eq_of_le (by decide), BitVec.extractLsb'_append_eq_of_le (by decide),
      BitVec.extractLsb'_append_eq_left]
    rfl
  have hfx : (0b00#2 ++ x ++ y ++ BitVec.ofBool on).extractLsb' 7 9 = x := by
    rw [BitVec.extractLsb'_append_eq_of_le (by decide), BitVec.extractLsb'_append_eq_of_le (by decide),
      BitVec.extractLsb'_append_eq_right]
  have hfy : (0b00#2 ++ x ++ y ++ BitVec.ofBool on).extractLsb' 1 6 = y := by
    rw [BitVec.extractLsb'_append_eq_of_le (by decide), BitVec.extractLsb'_append_eq_right]
  have hon : (0b00#2 ++ x ++ y ++ BitVec.ofBool on).getLsbD 0 = on := by
    rw [BitVec.getLsbD_append]; cases on <;> rfl
  rw [decodeEv, if_pos hkind]
  simp only [hfx, hfy, hon, if_pos hx]

theorem decodeEv_record (page : BitVec 3) (device : Device) :
    decodeEv (0b10#2 ++ page ++ device.bit ++ 0#12) = .ok (.record page device) := by
  revert page
  cases device <;> decide

theorem decodeEv_error {code : BitVec 3} (info : Byte) (hcode : code.toNat ≤ 4) :
    decodeEv (0b11#2 ++ code ++ 0#5 ++ info) = .ok (.error code info) := by
  have hkind : (0b11#2 ++ code ++ 0#5 ++ info).extractLsb' 16 2 = 3 := by
    rw [BitVec.extractLsb'_append_eq_of_le (by decide), BitVec.extractLsb'_append_eq_of_le (by decide),
      BitVec.extractLsb'_append_eq_left]
    rfl
  have hfcode : (0b11#2 ++ code ++ 0#5 ++ info).extractLsb' 13 3 = code := by
    rw [BitVec.extractLsb'_append_eq_of_le (by decide), BitVec.extractLsb'_append_eq_of_le (by decide),
      BitVec.extractLsb'_append_eq_right]
  have hzero : (0b11#2 ++ code ++ 0#5 ++ info).extractLsb' 8 5 = 0 := by
    rw [BitVec.extractLsb'_append_eq_of_le (by decide), BitVec.extractLsb'_append_eq_right]
    rfl
  have hinfo : (0b11#2 ++ code ++ 0#5 ++ info).extractLsb' 0 8 = info := BitVec.extractLsb'_append_eq_right
  simp only [decodeEv, hkind, hfcode, hzero, hinfo, if_pos hcode]
  rfl

/-- An event word is the concatenation of its kind and the fields of a `SET_PIXEL`. -/
theorem ev_eq_setPixel_fields (e : BitVec 18) :
    e.extractLsb' 16 2 ++ e.extractLsb' 7 9 ++ e.extractLsb' 1 6 ++ BitVec.ofBool (e.getLsbD 0) = e := by
  rw [← extractLsb'_one, BitVec.extractLsb'_append_extractLsb'_eq_extractLsb' (by decide),
    BitVec.extractLsb'_append_extractLsb'_eq_extractLsb' (by decide),
    BitVec.extractLsb'_append_extractLsb'_eq_extractLsb' (by decide), BitVec.extractLsb'_eq_self]

theorem ev_eq_present_fields (e : BitVec 18) : e.extractLsb' 16 2 ++ e.extractLsb' 0 16 = e := by
  rw [BitVec.extractLsb'_append_extractLsb'_eq_extractLsb' (by decide), BitVec.extractLsb'_eq_self]

theorem ev_eq_record_fields (e : BitVec 18) :
    e.extractLsb' 16 2 ++ e.extractLsb' 13 3 ++ BitVec.ofBool (e.getLsbD 12) ++ e.extractLsb' 0 12 = e := by
  rw [← extractLsb'_one, BitVec.extractLsb'_append_extractLsb'_eq_extractLsb' (by decide),
    BitVec.extractLsb'_append_extractLsb'_eq_extractLsb' (by decide),
    BitVec.extractLsb'_append_extractLsb'_eq_extractLsb' (by decide), BitVec.extractLsb'_eq_self]

theorem ev_eq_error_fields (e : BitVec 18) :
    e.extractLsb' 16 2 ++ e.extractLsb' 13 3 ++ e.extractLsb' 8 5 ++ e.extractLsb' 0 8 = e := by
  rw [BitVec.extractLsb'_append_extractLsb'_eq_extractLsb' (by decide),
    BitVec.extractLsb'_append_extractLsb'_eq_extractLsb' (by decide),
    BitVec.extractLsb'_append_extractLsb'_eq_extractLsb' (by decide), BitVec.extractLsb'_eq_self]

/-- The device that a bit of the record stands for has that bit (R67). -/
theorem device_bit_ite (b : Bool) : (if b then Device.secondary else Device.primary).bit = BitVec.ofBool b := by
  cases b <;> rfl

theorem encode_of_decodeEv {e : BitVec 18} {i : Instr} (h : decodeEv e = .ok i) :
    i.wellFormed = true ∧ encode i = e.toNat := by
  unfold decodeEv at h
  split at h
  case isTrue hkind =>
    split at h
    case isTrue hx =>
      cases h
      have hword := ev_eq_setPixel_fields e
      rw [hkind] at hword
      exact ⟨decide_eq_true hx, congrArg BitVec.toNat hword⟩
    case isFalse => cases h
  case isFalse hkind0 =>
    split at h
    case isTrue hkind =>
      split at h
      case isTrue hzero =>
        cases h
        have hword := ev_eq_present_fields e
        rw [hkind, hzero] at hword
        exact ⟨rfl, congrArg BitVec.toNat hword⟩
      case isFalse => cases h
    case isFalse hkind1 =>
      split at h
      case isTrue hkind =>
        split at h
        case isTrue hzero =>
          cases h
          have hword := ev_eq_record_fields e
          rw [hkind, hzero, ← device_bit_ite] at hword
          exact ⟨rfl, congrArg BitVec.toNat hword⟩
        case isFalse => cases h
      case isFalse hkind2 =>
        have hkind : e.extractLsb' 16 2 = 3 := by
          rcases two_bit_cases (e.extractLsb' 16 2) with h0 | h1 | h2 | h3
          · exact absurd h0 hkind0
          · exact absurd h1 hkind1
          · exact absurd h2 hkind2
          · exact h3
        split at h
        case isTrue hzero =>
          split at h
          case isTrue hcode =>
            cases h
            have hword := ev_eq_error_fields e
            rw [hkind, hzero] at hword
            exact ⟨decide_eq_true hcode, congrArg BitVec.toNat hword⟩
          case isFalse => cases h
        case isFalse => cases h

/-! ### The formats without fields (R64, R65, R69, R83) -/

theorem encode_decodeRst : ∀ b : BitVec 1, (decodeRst b).wellFormed = true ∧ encode (decodeRst b) = b.toNat := by
  decide
theorem encode_decodeReq : ∀ b : BitVec 2, (decodeReq b).wellFormed = true ∧ encode (decodeReq b) = b.toNat := by
  decide
theorem encode_decodeRsp : ∀ b : BitVec 1, (decodeRsp b).wellFormed = true ∧ encode (decodeRsp b) = b.toNat := by
  decide
theorem encode_decodeFn : ∀ b : BitVec 3, (decodeFn b).wellFormed = true ∧ encode (decodeFn b) = b.toNat := by decide

/-- The transitions carry no field that could be out of range. -/
theorem decodeTk_wellFormed {k : Key} {i : Instr} (h : decodeTk k = .ok i) : i.wellFormed = true := by
  have hrows : ∀ r ∈ tkRows, r.instr.wellFormed = true := by decide
  unfold decodeTk at h
  split at h
  case h_1 r hr => cases h; exact hrows r (List.mem_of_find?_eq_some hr)
  case h_2 => cases h

/-! ### The obligations -/

/-- Settles O12: a row without operands has one word, which is evaluated; a row with operands reads each field back out of
the concatenation. -/
theorem decodeOfEncode : Obligations.DecodeOfEncode := by
  unfold Obligations.DecodeOfEncode
  intro i hwf
  cases i with
  | setpage p c a => exact (decode_cmd_toNat _).trans (decodeCmd_setpage p c a)
  | col v => exact decode_col_toNat v
  | setPixel x y on => exact (decode_ev_toNat _).trans (decodeEv_setPixel y on (of_decide_eq_true hwf))
  | record page device => exact (decode_ev_toNat _).trans (decodeEv_record page device)
  | error code info => exact (decode_ev_toNat _).trans (decodeEv_error info (of_decide_eq_true hwf))
  | _ => rfl

/-- Outside format TK a word that decodes is well formed and is the encoding of what it decodes to; in format TK it is
well formed. -/
theorem decode_ok {f : Format} {w : Nat} {i : Instr} (h : decode f w = .ok i) :
    i.wellFormed = true ∧ (f ≠ .tk → encode i = w) := by
  have hfits : w < 2 ^ f.width := lt_of_decode_ok h
  have hword : (BitVec.ofNat f.width w).toNat = w := by rw [BitVec.toNat_ofNat, Nat.mod_eq_of_lt hfits]
  unfold decode at h
  rw [if_neg (Nat.not_le_of_lt hfits)] at h
  cases f with
  | tk => exact ⟨decodeTk_wellFormed h, fun hne => absurd rfl hne⟩
  | rst => cases h; exact ⟨(encode_decodeRst _).1, fun _ => (encode_decodeRst _).2.trans hword⟩
  | cmd => exact ⟨(encode_of_decodeCmd h).1, fun _ => (encode_of_decodeCmd h).2.trans hword⟩
  | col => cases h; exact ⟨rfl, fun _ => hword⟩
  | req => cases h; exact ⟨(encode_decodeReq _).1, fun _ => (encode_decodeReq _).2.trans hword⟩
  | rsp => cases h; exact ⟨(encode_decodeRsp _).1, fun _ => (encode_decodeRsp _).2.trans hword⟩
  | ev => exact ⟨(encode_of_decodeEv h).1, fun _ => (encode_of_decodeEv h).2.trans hword⟩
  | fn => cases h; exact ⟨(encode_decodeFn _).1, fun _ => (encode_decodeFn _).2.trans hword⟩

/-- Settles O13: each decoder tests the bits that it does not read into a field, so no bit of the word is lost. -/
theorem encodeOfDecode : Obligations.EncodeOfDecode := by
  unfold Obligations.EncodeOfDecode
  intro f w i h
  obtain ⟨hwf, hencode⟩ := decode_ok h
  exact ⟨hwf, decode_format h, hencode⟩

/-- Settles O14, by evaluating the twelve rows on each key. -/
theorem keySelectsExactlyOneRow : Obligations.KeySelectsExactlyOneRow := by
  unfold Obligations.KeySelectsExactlyOneRow
  decide

/-- Settles O15, by evaluating the decoder on the seven words. -/
theorem writtenWordsDecode : Obligations.WrittenWordsDecode := by
  unfold Obligations.WrittenWordsDecode
  decide

end Sys2Proof.Machine.Encodings

namespace Sys2Proof.Machine.StepEffects

open RwAndE (accept_run_tk fetchInReset_run fetch_run releaseOp_eq selectOp_run_tk)

/-! What a step can do to the sequencing state, to STATUS, to the grid and to the events. Fetching does nothing to them;
what an operation does to them is said once for each kind of operation: the transitions, the two reset releases, the
response rows, and the rows that only a direct call or the wait runs. -/

/-! ### Events and grid together (R56) -/

/-- From `s` to `t` the events `evs` leave CORE and are written to the grid. -/
def Emits (evs : List Event) (s t : State) : Prop := t.events = s.events ++ evs ∧ t.grid = replay s.grid evs

theorem emits_nil {s t : State} (hevents : t.events = s.events) (hgrid : t.grid = s.grid) : Emits [] s t :=
  ⟨by rw [hevents, List.append_nil], hgrid⟩

/-- What a step emits when no direct call draws (R166): nothing, the one report of an unknown page, or a whole frame. -/
def NothingErrorOrFrame (evs : List Event) : Prop :=
  evs = [] ∨ (∃ info, evs = [.error 3 info]) ∨
    ∃ page sel pay, List.length pay = 132 ∧ evs = renderEvents page sel pay

/-! ### HALTED and STATUS (R23, R113) -/

/-- From `s` to `t` CORE does not leave HALTED and no STATUS bit is cleared. -/
def Sticky (s t : State) : Prop := (s.state = .halted → t.state = .halted) ∧ s.status &&& t.status = s.status

/-- Setting bits clears none. -/
theorem status_and_or : ∀ st bits : BitVec 3, st &&& (st ||| bits) = st := by decide

theorem sticky_of_eq {s t : State} (hstate : t.state = s.state) (hstatus : t.status = s.status) : Sticky s t :=
  ⟨fun h => hstate.trans h, by rw [hstatus, BitVec.and_self]⟩

theorem sticky_of_set {s t : State} {bits : BitVec 3} (hstate : t.state = s.state)
    (hstatus : t.status = s.status ||| bits) : Sticky s t :=
  ⟨fun h => hstate.trans h, by rw [hstatus, status_and_or]⟩

/-- A transition out of a decoding state. -/
theorem sticky_of_decoding {s t : State} {st : Fsm} (hs : s.state = st) (hst : st ≠ .halted)
    (hstatus : s.status &&& t.status = s.status) : Sticky s t :=
  ⟨fun h => absurd (hs.symm.trans h) hst, hstatus⟩

/-! ### The transitions -/

/-- RD.FIN emits a frame, RD.BAD a report, and the other transitions nothing. -/
theorem exec_tk_emits {i : Instr} {s t : State} (hi : i.format = .tk) (h : exec i s = .next t) :
    ∃ evs, NothingErrorOrFrame evs ∧ Emits evs s t := by
  have hnothing (hevents : t.events = s.events) (hgrid : t.grid = s.grid) :
      ∃ evs, NothingErrorOrFrame evs ∧ Emits evs s t := ⟨[], .inl rfl, emits_nil hevents hgrid⟩
  cases i with
  | fsA => obtain ⟨-, _, _, -, rfl⟩ := execFsA_next h; exact hnothing rfl rfl
  | fsB => obtain ⟨-, _, _, -, rfl⟩ := execFsB_next h; exact hnothing rfl rfl
  | vsAcc => obtain ⟨-, _, _, _, -, -, -, rfl⟩ := execVsAcc_next h; exact hnothing rfl rfl
  | vsRej => obtain ⟨-, _, _, _, -, -, -, rfl⟩ := execVsRej_next h; exact hnothing rfl rfl
  | ncAcc => obtain ⟨-, _, _, _, -, -, -, -, rfl⟩ := execNcAcc_next h; exact hnothing rfl rfl
  | ncFin => obtain ⟨-, _, _, _, -, -, -, -, rfl⟩ := execNcFin_next h; exact hnothing rfl rfl
  | ncRej => obtain ⟨-, _, _, _, -, -, -, rfl⟩ := execNcRej_next h; exact hnothing rfl rfl
  | rdAcc => obtain ⟨-, _, _, _, -, -, rfl⟩ := execRdAcc_next h; exact hnothing rfl rfl
  | rdFin =>
    obtain ⟨-, _, _, lv, page, -, hlen, -, rfl⟩ := execRdFin_next h
    have hpay : (s.pay ++ [pack lv]).length = 132 := by rw [List.length_append, hlen, List.length_singleton]
    exact ⟨_, .inr (.inr ⟨page, selector lv, _, hpay, rfl⟩), rfl, rfl⟩
  | rdBad =>
    obtain ⟨-, _, _, _, -, -, -, rfl⟩ := execRdBad_next h
    exact ⟨_, .inr (.inl ⟨s.cmd0, rfl⟩), rfl, rfl⟩
  | eos => obtain ⟨-, -, rfl⟩ := execEos_next h; exact hnothing rfl rfl
  | haltNop => obtain ⟨-, rfl⟩ := execHaltNop_next h; exact hnothing rfl rfl
  | _ => cases hi

/-- HALT.NOP keeps the state, and every other transition starts from a decoding state and at most sets a bit. -/
theorem exec_tk_sticky {i : Instr} {s t : State} (hi : i.format = .tk) (h : exec i s = .next t) : Sticky s t := by
  cases i with
  | fsA => obtain ⟨hs, _, _, -, rfl⟩ := execFsA_next h; exact sticky_of_decoding hs nofun BitVec.and_self
  | fsB => obtain ⟨hs, _, _, -, rfl⟩ := execFsB_next h; exact sticky_of_decoding hs nofun BitVec.and_self
  | vsAcc =>
    obtain ⟨hs, _, _, _, -, -, -, rfl⟩ := execVsAcc_next h; exact sticky_of_decoding hs nofun BitVec.and_self
  | vsRej =>
    obtain ⟨hs, _, _, _, -, -, -, rfl⟩ := execVsRej_next h; exact sticky_of_decoding hs nofun BitVec.and_self
  | ncAcc =>
    obtain ⟨hs, _, _, _, -, -, -, -, rfl⟩ := execNcAcc_next h; exact sticky_of_decoding hs nofun BitVec.and_self
  | ncFin =>
    obtain ⟨hs, _, _, _, -, -, -, -, rfl⟩ := execNcFin_next h; exact sticky_of_decoding hs nofun BitVec.and_self
  | ncRej =>
    obtain ⟨hs, _, _, _, -, -, -, rfl⟩ := execNcRej_next h; exact sticky_of_decoding hs nofun BitVec.and_self
  | rdAcc =>
    obtain ⟨hs, _, _, _, -, -, rfl⟩ := execRdAcc_next h; exact sticky_of_decoding hs nofun BitVec.and_self
  | rdFin =>
    obtain ⟨hs, _, _, _, _, -, -, -, rfl⟩ := execRdFin_next h
    exact sticky_of_decoding hs nofun BitVec.and_self
  | rdBad => obtain ⟨hs, _, _, _, -, -, -, rfl⟩ := execRdBad_next h; exact sticky_of_decoding hs nofun (status_and_or _ _)
  | eos => obtain ⟨-, -, rfl⟩ := execEos_next h; exact ⟨fun _ => rfl, status_and_or _ _⟩
  | haltNop => obtain ⟨-, rfl⟩ := execHaltNop_next h; exact sticky_of_eq rfl rfl
  | _ => cases hi

/-! ### The other rows -/

/-- The two reset releases need reset asserted, and then only overwrite registers other than grid and events (R189). -/
theorem exec_rst_next {i : Instr} {s t : State} (hi : i.format = .rst) (h : exec i s = .next t) :
    s.rst = true ∧ t.events = s.events ∧ t.grid = s.grid := by
  cases i with
  | rstOk => obtain ⟨hrst, -, -, -, -, rfl⟩ := execRstOk_next h; exact ⟨hrst, rfl, rfl⟩
  | rstCfgerr => obtain ⟨hrst, -, rfl⟩ := execRstCfgerr_next h; exact ⟨hrst, rfl, rfl⟩
  | _ => cases hi

/-- The response rows hold a response and move the least allowed index (R65). -/
theorem exec_rsp_next {i : Instr} {s t : State} (hi : i.format = .rsp) (h : exec i s = .next t) :
    ∃ rsp minIdx, t = { s with rsp := rsp, minIdx := minIdx } := by
  cases i with
  | rspMatch =>
    obtain ⟨-, -, ⟨-, rfl⟩ | ⟨-, -, -, rfl⟩⟩ := execRspMatch_next h
    · exact ⟨_, s.minIdx, rfl⟩
    · exact ⟨_, _, rfl⟩
  | rspEos => obtain ⟨-, -, rfl⟩ := execRspEos_next h; exact ⟨_, s.minIdx, rfl⟩
  | _ => cases hi

/-- `t` is `s` after events inside the grid, perhaps with BAD_PAGE_SEEN set, and with any operands, returned value and
request: what a row that only a direct call or the wait runs can do. -/
def RunsAlone (s t : State) : Prop :=
  ∃ evs status args ret reqSel, (∀ e ∈ evs, e.inGrid) ∧ (status = s.status ∨ status = s.status ||| 4) ∧
    t = { emitAll evs s with status := status, args := args, ret := ret, reqSel := reqSel }

theorem emitAll_nil (s : State) : emitAll [] s = s := by
  simp only [emitAll, List.foldl_nil, List.append_nil]

theorem runsAlone_quiet (s : State) (args : Args) (ret : Ret) (reqSel : BitVec 2) :
    RunsAlone s { s with args := args, ret := ret, reqSel := reqSel } :=
  ⟨[], s.status, args, ret, reqSel, nofun, .inl rfl, by rw [emitAll_nil]⟩

theorem runsAlone_emitAll {evs : List Event} (s : State) (args : Args) (hin : ∀ e ∈ evs, e.inGrid) :
    RunsAlone s (emitAll evs { s with args := args }) :=
  ⟨evs, s.status, args, s.ret, s.reqSel, hin, .inl rfl, rfl⟩

theorem runsAlone_reportUnknownPage (c : Byte) (s : State) : RunsAlone s (reportUnknownPage c s) :=
  ⟨[.error 3 c], s.status ||| 4, s.args, s.ret, s.reqSel, List.forall_mem_singleton.2 trivial, .inr rfl, rfl⟩

theorem execRender_runsAlone (s : State) :
    RunsAlone s (renderFrame s.args.cmd.b0 s.args.pay.toList s.args.sel s) := by
  rcases renderFrame_cases s.args.cmd.b0 s.args.pay.toList s.args.sel s with ⟨p, -, h⟩ | ⟨-, h⟩
  · rw [h]
    exact runsAlone_emitAll s s.args (renderEvents_inGrid s.args.pay.length_toList)
  · rw [h]
    exact runsAlone_reportUnknownPage _ s

theorem execCol_runsAlone {v : Byte} {s t : State} (h : execCol v s = .next t) : RunsAlone s t := by
  rcases execCol_next h with ⟨-, rfl⟩ | ⟨p, -, hcol, rfl⟩
  · exact runsAlone_reportUnknownPage _ s
  · have hoff := columnOffset_le (deviceOf s.args.sel)
    exact runsAlone_emitAll s _ (columnEvents_inGrid (by omega))

theorem issueRequest_runsAlone {c : BitVec 2} {s t : State} (h : issueRequest c s = .next t) : RunsAlone s t := by
  obtain ⟨-, rfl⟩ := issueRequest_next h
  exact runsAlone_quiet s s.args s.ret c

/-- Every row of the formats CMD, COL, REQ, EV and FN. -/
theorem exec_runsAlone {i : Instr} {s t : State} (htk : i.format ≠ .tk) (hrst : i.format ≠ .rst) (hrsp : i.format ≠ .rsp)
    (h : exec i s = .next t) : RunsAlone s t := by
  cases i with
  | setpage p c a => cases h; exact runsAlone_quiet s _ _ s.reqSel
  | col v => exact execCol_runsAlone h
  | reqNone => exact issueRequest_runsAlone h
  | reqStart => exact issueRequest_runsAlone h
  | reqClk1 => exact issueRequest_runsAlone h
  | reqClk2 => exact issueRequest_runsAlone h
  | setPixel x y on =>
    obtain ⟨hx, rfl⟩ := execSetPixel_next h
    exact runsAlone_emitAll s s.args (List.forall_mem_singleton.2 hx)
  | present => cases h; exact runsAlone_emitAll s s.args (List.forall_mem_singleton.2 trivial)
  | record page device => cases h; exact runsAlone_emitAll s s.args (List.forall_mem_singleton.2 trivial)
  | error code info =>
    rcases execError_next h with ⟨-, rfl⟩ | ⟨-, rfl⟩
    · exact runsAlone_emitAll s s.args (List.forall_mem_singleton.2 trivial)
    · exact runsAlone_quiet t t.args t.ret t.reqSel
  | timedelta => obtain ⟨r, rfl⟩ := execTimedelta_next h; exact runsAlone_quiet s s.args r s.reqSel
  | classifyStart => obtain ⟨r, rfl⟩ := execClassifyStart_next h; exact runsAlone_quiet s s.args r s.reqSel
  | classifyClockPeriod => obtain ⟨r, rfl⟩ := execClassifyClockPeriod_next h; exact runsAlone_quiet s s.args r s.reqSel
  | pack => cases h; exact runsAlone_quiet s s.args _ s.reqSel
  | sel => cases h; exact runsAlone_quiet s s.args _ s.reqSel
  | pageDecode => obtain ⟨r, rfl⟩ := execPageDecode_next h; exact runsAlone_quiet s s.args r s.reqSel
  | render => cases h; exact execRender_runsAlone s
  | matchPattern => obtain ⟨r, rfl⟩ := execMatchPattern_next h; exact runsAlone_quiet s s.args r s.reqSel
  | rspMatch => exact absurd rfl hrsp
  | rspEos => exact absurd rfl hrsp
  | rstOk => exact absurd rfl hrst
  | rstCfgerr => exact absurd rfl hrst
  | _ => exact absurd rfl htk

/-- Every operation emits some events and writes them to the grid. -/
theorem exec_emits {i : Instr} {s t : State} (h : exec i s = .next t) : ∃ evs, Emits evs s t := by
  by_cases htk : i.format = .tk
  · obtain ⟨evs, -, hemits⟩ := exec_tk_emits htk h
    exact ⟨evs, hemits⟩
  by_cases hrst : i.format = .rst
  · obtain ⟨-, hevents, hgrid⟩ := exec_rst_next hrst h
    exact ⟨[], emits_nil hevents hgrid⟩
  by_cases hrsp : i.format = .rsp
  · obtain ⟨_, _, rfl⟩ := exec_rsp_next hrsp h
    exact ⟨[], emits_nil rfl rfl⟩
  obtain ⟨evs, _, _, _, _, -, -, rfl⟩ := exec_runsAlone htk hrst hrsp h
  exact ⟨evs, rfl, rfl⟩

/-- Out of reset no operation leaves HALTED or clears a STATUS bit. -/
theorem exec_sticky {i : Instr} {s t : State} (hout : s.rst = false) (h : exec i s = .next t) : Sticky s t := by
  by_cases htk : i.format = .tk
  · exact exec_tk_sticky htk h
  by_cases hrst : i.format = .rst
  · exact absurd (exec_rst_next hrst h).1 (by rw [hout]; exact nofun)
  by_cases hrsp : i.format = .rsp
  · obtain ⟨_, _, rfl⟩ := exec_rsp_next hrsp h
    exact sticky_of_eq rfl rfl
  obtain ⟨_, _, _, _, _, -, rfl | rfl, rfl⟩ := exec_runsAlone htk hrst hrsp h
  · exact sticky_of_eq rfl rfl
  · exact sticky_of_set rfl rfl

/-! ### Fetching -/

/-- `t` has the sequencing state, the STATUS, the grid and the events of `s`. -/
def SameRegisters (s t : State) : Prop :=
  t.state = s.state ∧ t.status = s.status ∧ t.grid = s.grid ∧ t.events = s.events

/-- What is fetched has the registers of `s`, and reset as it is where an operation is to run. -/
def KeepsRegisters (s : State) : Fetched → Prop
  | .done (.next t) => SameRegisters s t
  | .done (.fault _) => True
  | .done (.refused _) => True
  | .run _ u => SameRegisters s u ∧ u.rst = s.rst

theorem selectOp_keepsRegisters (s : State) : KeepsRegisters s (selectOp s) := by
  cases h : selectOp s with
  | run i u => obtain ⟨rfl, -⟩ := selectOp_run h; exact ⟨⟨rfl, rfl, rfl, rfl⟩, rfl⟩
  | done o =>
    cases o with
    | next t => obtain ⟨-, rfl⟩ := selectOp_next h; exact ⟨rfl, rfl, rfl, rfl⟩
    | fault e => trivial
    | refused r => trivial

/-- Taking a response and selecting by it. -/
theorem deliver_keepsRegisters {i : Instr} {s : State} (hi : i.format = .rsp) : KeepsRegisters s (deliver (exec i s)) := by
  cases h : exec i s with
  | next t =>
    obtain ⟨rsp, minIdx, rfl⟩ := exec_rsp_next hi h
    exact selectOp_keepsRegisters { s with rsp := rsp, minIdx := minIdx }
  | fault e => trivial
  | refused r => trivial

theorem frontEndSample_keepsRegisters (lv : Levels) (s : State) : KeepsRegisters s (frontEndSample lv s) := by
  unfold frontEndSample
  split
  · exact ⟨rfl, rfl, rfl, rfl⟩
  · split
    · exact ⟨rfl, rfl, rfl, rfl⟩
    · exact deliver_keepsRegisters (i := .rspMatch) (s := drivePins _ s.nextIdx lv (acceptSample lv s)) rfl

theorem frontEndEnd_keepsRegisters (s : State) : KeepsRegisters s (frontEndEnd s) := by
  unfold frontEndEnd
  split
  · exact ⟨rfl, rfl, rfl, rfl⟩
  · exact deliver_keepsRegisters (i := .rspEos) (s := { s with eosSeen := true }) rfl

theorem handIn_keepsRegisters (r : Response) (s : State) : KeepsRegisters s (handIn r s) := by
  cases r with
  | matched alt idx lv =>
    exact deliver_keepsRegisters (i := .rspMatch) (s := { s with rspAlt := alt, rspIdx := idx, rspLv := lv }) rfl
  | endOfStream => exact deliver_keepsRegisters (i := .rspEos) (s := s) rfl

theorem directCall_keepsRegisters (f : Format) (w : Nat) (args : Args) (s : State) :
    KeepsRegisters s (directCall f w args s) := by
  unfold directCall
  split
  · trivial
  · split
    · exact ⟨⟨rfl, rfl, rfl, rfl⟩, rfl⟩
    · trivial

theorem accept_keepsRegisters (item : Input) (s : State) : KeepsRegisters s (accept item s) := by
  cases item with
  | sample lv =>
    simp only [accept]
    split
    · exact frontEndSample_keepsRegisters lv s
    · trivial
  | endMark =>
    simp only [accept]
    split
    · exact frontEndEnd_keepsRegisters s
    · trivial
  | response r =>
    simp only [accept]
    split
    · exact handIn_keepsRegisters r s
    · trivial
  | rstAssert => exact ⟨rfl, rfl, rfl, rfl⟩
  | rstRelease m n d => trivial
  | call f w args => exact directCall_keepsRegisters f w args s

theorem fetchInReset_keepsRegisters (s : State) : KeepsRegisters s (fetchInReset s) := by
  unfold fetchInReset
  split
  · rw [releaseOp_eq]
    exact ⟨⟨rfl, rfl, rfl, rfl⟩, rfl⟩
  · exact ⟨rfl, rfl, rfl, rfl⟩
  · exact ⟨rfl, rfl, rfl, rfl⟩

theorem fetch_keepsRegisters (s : State) : KeepsRegisters s (fetch s) := by
  unfold fetch
  split
  · exact fetchInReset_keepsRegisters s
  · split
    · exact ⟨rfl, rfl, rfl, rfl⟩
    · exact selectOp_keepsRegisters s
    · split
      · exact selectOp_keepsRegisters s
      · exact accept_keepsRegisters _ { s with inputs := _ }

/-! ### The step -/

/-- A step that answers a next state leaves the four registers alone, or one operation acted on them. -/
theorem step_next_registers {s t : State} (h : step s = .next t) : SameRegisters s t ∨
    ∃ i u v, fetch s = .run i u ∧ SameRegisters s u ∧ u.rst = s.rst ∧ exec i u = .next v ∧ SameRegisters v t := by
  have hfetch := fetch_keepsRegisters s
  rcases step_next h with hdone | ⟨i, u, v, hrun, hexec, rfl⟩
  · rw [hdone] at hfetch
    exact .inl hfetch
  · rw [hrun] at hfetch
    obtain ⟨hsame, hrst⟩ := hfetch
    exact .inr ⟨i, u, v, hrun, hsame, hrst, hexec, rfl, rfl, rfl, rfl⟩

/-- What an operation emits between states with the registers of `s` and `t` is emitted from `s` to `t`. -/
theorem emits_of_sameRegisters {evs : List Event} {s u v t : State} (hsu : SameRegisters s u) (huv : Emits evs u v)
    (hvt : SameRegisters v t) : Emits evs s t := by
  obtain ⟨-, -, hgrid, hevents⟩ := hsu
  obtain ⟨hevents', hgrid'⟩ := huv
  obtain ⟨-, -, hgrid'', hevents''⟩ := hvt
  exact ⟨by rw [hevents'', hevents', hevents], by rw [hgrid'', hgrid', hgrid]⟩

theorem sticky_of_sameRegisters {s u v t : State} (hsu : SameRegisters s u) (huv : Sticky u v)
    (hvt : SameRegisters v t) : Sticky s t := by
  obtain ⟨hstate, hstatus, -, -⟩ := hsu
  obtain ⟨hhalted, hbits⟩ := huv
  obtain ⟨hstate'', hstatus'', -, -⟩ := hvt
  exact ⟨fun h => hstate''.trans (hhalted (hstate.trans h)), by rw [hstatus'', ← hstatus, hbits]⟩

theorem step_sticky {s t : State} (hout : s.rst = false) (h : step s = .next t) : Sticky s t := by
  rcases step_next_registers h with ⟨hstate, hstatus, -, -⟩ | ⟨i, u, v, -, hsu, hrst, hexec, hvt⟩
  · exact sticky_of_eq hstate hstatus
  · exact sticky_of_sameRegisters hsu (exec_sticky (hrst.trans hout) hexec) hvt

/-- Without a direct call at the head of the input, what is fetched is a transition or a reset release. -/
theorem fetch_run_tk_or_rst {s u : State} {i : Instr} (hcall : ∀ f w args rest, s.inputs ≠ .call f w args :: rest)
    (h : fetch s = .run i u) : i.format = .tk ∨ i.format = .rst := by
  cases hrst : s.rst with
  | true =>
    simp only [fetch, hrst, if_true] at h
    exact .inr (fetchInReset_run h)
  | false =>
    rcases fetch_run hrst h with hselect | ⟨item, rest, hin, hrsp, haccept⟩
    · exact .inl (selectOp_run_tk hselect).1
    · refine .inl (accept_run_tk (s := { s with inputs := rest }) hrsp haccept ?_)
      rintro f w args rfl
      exact hcall f w args rest hin

/-! ### The obligations -/

/-- Settles O28: no operation leaves HALTED out of reset, and fetching leaves the state alone. -/
theorem onlyResetLeavesHalted : Obligations.OnlyResetLeavesHalted := by
  unfold Obligations.OnlyResetLeavesHalted
  intro s t hs hout h
  exact (step_sticky hout h).1 hs

/-- Settles O29: an operation out of reset only sets bits. -/
theorem statusBitsSticky : Obligations.StatusBitsSticky := by
  unfold Obligations.StatusBitsSticky
  intro s t hout h
  exact (step_sticky hout h).2

/-- Settles O42: fetching emits nothing, and every operation writes what it emits. -/
theorem gridIsFoldOfEvents : Obligations.GridIsFoldOfEvents := by
  unfold Obligations.GridIsFoldOfEvents
  intro s t h
  rcases step_next_registers h with ⟨-, -, hgrid, hevents⟩ | ⟨i, u, v, -, hsu, -, hexec, hvt⟩
  · exact ⟨[], emits_nil hevents hgrid⟩
  · obtain ⟨evs, hemits⟩ := exec_emits hexec
    exact ⟨evs, emits_of_sameRegisters hsu hemits hvt⟩

/-- Without a direct call a step emits nothing, one report, or a whole frame. -/
theorem step_emits_whole {s t : State} (hcall : ∀ f w args rest, s.inputs ≠ .call f w args :: rest)
    (h : step s = .next t) : ∃ evs, NothingErrorOrFrame evs ∧ Emits evs s t := by
  rcases step_next_registers h with ⟨-, -, hgrid, hevents⟩ | ⟨i, u, v, hrun, hsu, -, hexec, hvt⟩
  · exact ⟨[], .inl rfl, emits_nil hevents hgrid⟩
  · rcases fetch_run_tk_or_rst hcall hrun with htk | hrst
    · obtain ⟨evs, hwhole, hemits⟩ := exec_tk_emits htk hexec
      exact ⟨evs, hwhole, emits_of_sameRegisters hsu hemits hvt⟩
    · obtain ⟨-, hevents, hgrid⟩ := exec_rst_next hrst hexec
      exact ⟨[], .inl rfl, emits_of_sameRegisters hsu (emits_nil hevents hgrid) hvt⟩

/-- Settles O43: only transitions and reset releases run without a direct call, and of them only RD.FIN draws. -/
theorem noPartialFrame : Obligations.NoPartialFrame := by
  unfold Obligations.NoPartialFrame
  intro s t hcall h
  obtain ⟨evs, hwhole, hevents, -⟩ := step_emits_whole hcall h
  rcases hwhole with rfl | ⟨info, rfl⟩ | ⟨page, sel, pay, hpay, rfl⟩
  · exact .inl (hevents.trans (List.append_nil _))
  · exact .inr (.inl ⟨info, hevents⟩)
  · exact .inr (.inr ⟨page, sel, pay, hpay, hevents⟩)

end Sys2Proof.Machine.StepEffects

namespace Sys2Proof.Machine.Invariant

open RwAndE (decode_format releaseOp_eq selectOp_run_tk)
open StepEffects (RunsAlone exec_runsAlone)
open FramingFsm (inDomain_endOfStream key_matches_eos selectOp_of_matches)

/-! R26, R90, R138, R141, R150: the invariant. All of it but the request on the port (`InOrder`) holds between an operation
and the wait after it; each operation keeps it, and the wait puts the request back. The one state on the way that is not in
order is that at the `End` mark, where `eos_seen` is set before EOS halts CORE. -/

/-! ### The invariant without the request on the port -/

/-- A held response lies in the domain of the time difference, and its index has been delivered. -/
def ResponseInOrder (s : State) (r : Response) : Prop :=
  inDomain s r = true ∧ ∀ alt idx lv, r = .matched alt idx lv → idx < s.minIdx

/-- The invariant but for the request on the port. -/
def InOrder (s : State) : Prop :=
  payloadShape s = true ∧ haltedShape s = true ∧ configShape s = true ∧
    (∀ x, s.timeRef = some x → x < s.minIdx) ∧ (∀ r, s.rsp = some r → s.state = .halted ∨ ResponseInOrder s r) ∧
    (s.portLevel = .levelA ∨ s.minIdx ≤ s.nextIdx) ∧ (s.eosSeen = true → s.state = .halted) ∧
    (s.rst = true → s.rsp = none) ∧ Memory.wf s.grid = true

theorem indexShape_iff (s : State) : indexShape s = true ↔ (∀ x, s.timeRef = some x → x < s.minIdx) ∧
    ∀ r, s.rsp = some r → s.state = .halted ∨ ResponseInOrder s r := by
  rw [indexShape, Bool.and_eq_true]
  refine and_congr ?_ ?_
  · cases s.timeRef <;> simp
  · rcases s.rsp with _ | ⟨alt, idx, lv⟩ | _ <;> simp [ResponseInOrder]

theorem frontEndShape_iff (s : State) : frontEndShape s = true ↔
    (s.portLevel = .levelA ∨ s.minIdx ≤ s.nextIdx) ∧ (s.eosSeen = true → s.state = .halted) ∧
      (s.rst = true → s.rsp = none) := by
  cases heos : s.eosSeen <;> cases hrst : s.rst <;> simp [frontEndShape, heos, hrst, and_assoc]

theorem inv_iff (s : State) : s.inv = true ↔ InOrder s ∧ s.reqSel = s.request := by
  simp only [State.inv, Bool.and_eq_true, indexShape_iff, frontEndShape_iff, requestShape, decide_eq_true_eq, InOrder]
  tauto

/-! ### The parts that an operation changes -/

/-- The STATUS bits of the two terminal errors (R165). -/
def terminal (status : BitVec 3) : Bool := status.getLsbD 0 || status.getLsbD 1

theorem terminal_zero : terminal 0 = false := by decide
theorem terminal_cfgErr : terminal 1 = true := by decide
theorem terminal_badPage : ∀ status : BitVec 3, terminal (status ||| 4) = terminal status := by decide
theorem terminal_streamEnded : ∀ status : BitVec 3, terminal (status ||| 2) = true := by decide

theorem haltedShape_iff (s : State) : haltedShape s = true ↔ (s.state = .halted ↔ terminal s.status = true) := by
  have hshape : haltedShape s = (decide (s.state = .halted) == terminal s.status) := rfl
  rw [hshape, beq_iff_eq]
  cases terminal s.status <;> simp

/-- A CORE that decodes has a checked configuration (R150). -/
theorem configShape_of_decoding {s t : State} (h : configShape s = true) (hs : s.state ≠ .halted)
    (hmask : t.chMask = s.chMask) (hnum : t.perNum = s.perNum) (hden : t.perDen = s.perDen) : configShape t = true := by
  simp only [configShape, decide_eq_false hs, Bool.false_or] at h
  simp only [configShape, hmask, hnum, hden, h, Bool.or_true]

theorem inOrder_emitAll {s : State} {evs : List Event} (h : InOrder s) (hin : ∀ e ∈ evs, e.inGrid) :
    InOrder (emitAll evs s) := by
  obtain ⟨hpay, hhalt, hconfig, href, hrsp, hcount, heos, hrst, hgrid⟩ := h
  exact ⟨hpay, hhalt, hconfig, href, hrsp, hcount, heos, hrst, replay_wf hgrid hin⟩

/-- BAD_PAGE_SEEN has no part in the invariant. -/
theorem inOrder_badPage {s : State} (h : InOrder s) : InOrder { s with status := s.status ||| 4 } := by
  obtain ⟨hpay, hhalt, hrest⟩ := h
  refine ⟨hpay, ?_, hrest⟩
  rw [haltedShape_iff] at hhalt ⊢
  rw [terminal_badPage]
  exact hhalt

/-- The operands, the returned value and the request have no part in it. -/
theorem inOrder_quiet {s : State} (h : InOrder s) (args : Args) (ret : Ret) (reqSel : BitVec 2) :
    InOrder { s with args := args, ret := ret, reqSel := reqSel } := h

theorem inOrder_runsAlone {s t : State} (h : InOrder s) (ht : RunsAlone s t) : InOrder t := by
  obtain ⟨evs, status, args, ret, reqSel, hin, hstatus, rfl⟩ := ht
  rcases hstatus with rfl | rfl
  · exact inOrder_quiet (inOrder_emitAll h hin) args ret reqSel
  · exact inOrder_quiet (inOrder_badPage (inOrder_emitAll h hin)) args ret reqSel

/-! ### The transitions -/

/-- A transition between decoding states that consumes the response: the new state's buffers must have its shape, and the
index it measures from must have been delivered. -/
theorem inOrder_decoding {s : State} (h : InOrder s) (hs : s.state ≠ .halted) {st : Fsm} {track : Track}
    {candIdx refIdx : Nat} {cmd pay : List Byte} (hst : st ≠ .halted)
    (hpay : payloadShape { s with state := st, cmd := cmd, pay := pay } = true)
    (href : ∀ x, { s with state := st, candIdx := candIdx, refIdx := refIdx }.timeRef = some x → x < s.minIdx) :
    InOrder { s with state := st, track := track, candIdx := candIdx, refIdx := refIdx, cmd := cmd, pay := pay,
                     rsp := none } := by
  obtain ⟨-, hhalt, hconfig, -, -, hcount, heos, -, hgrid⟩ := h
  refine ⟨hpay, ?_, configShape_of_decoding hconfig hs rfl rfl rfl, href, nofun, hcount,
    fun he => absurd (heos he) hs, fun _ => rfl, hgrid⟩
  rw [haltedShape_iff] at hhalt ⊢
  exact iff_of_false hst fun hterm => hs (hhalt.2 hterm)

/-- Back in FIND_START with the buffers dropped (R114). -/
theorem inOrder_findStart {s : State} (h : InOrder s) (hs : s.state ≠ .halted) :
    InOrder { s with cmd := [], pay := [], state := .findStart, rsp := none } :=
  inOrder_decoding h hs nofun rfl nofun

/-- Out of HALTED the index of a held response has been delivered. -/
theorem idx_lt_minIdx {s : State} {alt : BitVec 1} {idx : Nat} {lv : Levels} (h : InOrder s) (hs : s.state ≠ .halted)
    (hr : s.rsp = some (.matched alt idx lv)) : idx < s.minIdx := by
  obtain ⟨-, -, -, -, hrsp, -⟩ := h
  obtain ⟨-, hidx⟩ := (hrsp _ hr).resolve_left hs
  exact hidx alt idx lv rfl

theorem buffers_of_verifyStart {s : State} (h : InOrder s) (hs : s.state = .verifyStart) : s.cmd = [] ∧ s.pay = [] := by
  obtain ⟨hshape, -⟩ := h
  simpa [payloadShape, hs] using hshape

theorem buffers_of_findStart {s : State} (h : InOrder s) (hs : s.state = .findStart) : s.cmd = [] ∧ s.pay = [] := by
  obtain ⟨hshape, -⟩ := h
  simpa [payloadShape, hs] using hshape

theorem buffers_of_findNextStartClk {s : State} (h : InOrder s) (hs : s.state = .findNextStartClk) :
    (s.cmd.length = 1 ∨ s.cmd.length = 2) ∧ s.pay = [] := by
  obtain ⟨hshape, -⟩ := h
  simpa [payloadShape, hs] using hshape

theorem buffers_of_readData {s : State} (h : InOrder s) (hs : s.state = .readData) :
    s.cmd.length = 3 ∧ s.pay.length ≤ 131 := by
  obtain ⟨hshape, -⟩ := h
  simpa [payloadShape, hs] using hshape

/-- A hand-over starts a candidate at its own index, whichever chip select is tracked (R102, R103). -/
theorem inOrder_handOver {s : State} {alt : BitVec 1} {idx : Nat} {lv : Levels} (h : InOrder s)
    (hs : s.state = .findStart) (hr : s.rsp = some (.matched alt idx lv)) (track : Track) :
    InOrder { s with track := track, candIdx := idx, state := .verifyStart, rsp := none } := by
  have hdecoding : s.state ≠ .halted := by rw [hs]; exact nofun
  obtain ⟨hcmd, hpay⟩ := buffers_of_findStart h hs
  refine inOrder_decoding h hdecoding nofun ?_ ?_
  · simp [payloadShape, hcmd, hpay]
  · rintro x ⟨⟩
    exact idx_lt_minIdx h hdecoding hr

/-- EOS halts CORE from any decoding state, also where `eos_seen` has just been set. -/
theorem execEos_inOrder {s t : State} (h : InOrder { s with eosSeen := false }) (hexec : execEos s = .next t) :
    InOrder t := by
  obtain ⟨-, -, rfl⟩ := execEos_next hexec
  obtain ⟨-, -, -, -, -, hcount, -, -, hgrid⟩ := h
  refine ⟨rfl, ?_, rfl, nofun, nofun, hcount, fun _ => rfl, fun _ => rfl, hgrid⟩
  rw [haltedShape_iff, terminal_streamEnded]
  exact iff_of_true rfl rfl

theorem inOrder_eosSeen_false {s : State} (h : InOrder s) : InOrder { s with eosSeen := false } := by
  obtain ⟨hpay, hhalt, hconfig, href, hrsp, hcount, -, hrest⟩ := h
  exact ⟨hpay, hhalt, hconfig, href, hrsp, hcount, nofun, hrest⟩

theorem exec_tk_inOrder {i : Instr} {s t : State} (h : InOrder s) (hi : i.format = .tk) (hexec : exec i s = .next t) :
    InOrder t := by
  cases i with
  | fsA => obtain ⟨hs, idx, lv, hr, rfl⟩ := execFsA_next hexec; exact inOrder_handOver h hs hr .cs2
  | fsB => obtain ⟨hs, idx, lv, hr, rfl⟩ := execFsB_next hexec; exact inOrder_handOver h hs hr .cs1
  | vsAcc =>
    obtain ⟨hs, alt, idx, lv, hr, -, -, rfl⟩ := execVsAcc_next hexec
    have hdecoding : s.state ≠ .halted := by rw [hs]; exact nofun
    obtain ⟨-, hpay⟩ := buffers_of_verifyStart h hs
    refine inOrder_decoding h hdecoding nofun ?_ ?_
    · simp [payloadShape, hpay]
    · rintro x ⟨⟩
      exact idx_lt_minIdx h hdecoding hr
  | vsRej =>
    obtain ⟨hs, _, _, _, -, -, -, rfl⟩ := execVsRej_next hexec
    exact inOrder_findStart h (by rw [hs]; exact nofun)
  | ncAcc =>
    obtain ⟨hs, alt, idx, lv, hr, -, -, hlen, rfl⟩ := execNcAcc_next hexec
    have hdecoding : s.state ≠ .halted := by rw [hs]; exact nofun
    obtain ⟨hcmd, hpay⟩ := buffers_of_findNextStartClk h hs
    have hone : s.cmd.length = 1 := hcmd.resolve_right hlen
    refine inOrder_decoding h hdecoding hdecoding ?_ ?_
    · simp [payloadShape, hs, hone, hpay]
    · simp only [State.timeRef, hs]
      rintro x ⟨⟩
      exact idx_lt_minIdx h hdecoding hr
  | ncFin =>
    obtain ⟨hs, alt, idx, lv, -, -, -, hlen, rfl⟩ := execNcFin_next hexec
    have hdecoding : s.state ≠ .halted := by rw [hs]; exact nofun
    exact inOrder_decoding h hdecoding nofun (by simp [payloadShape, hlen]) nofun
  | ncRej =>
    obtain ⟨hs, _, _, _, -, -, -, rfl⟩ := execNcRej_next hexec
    exact inOrder_findStart h (by rw [hs]; exact nofun)
  | rdAcc =>
    obtain ⟨hs, alt, idx, lv, -, hlen, rfl⟩ := execRdAcc_next hexec
    have hdecoding : s.state ≠ .halted := by rw [hs]; exact nofun
    obtain ⟨hcmd, hpay⟩ := buffers_of_readData h hs
    refine inOrder_decoding h hdecoding hdecoding ?_ ?_
    · simp only [payloadShape, hs, hcmd, List.length_append, List.length_singleton, decide_true, Bool.true_and,
        decide_eq_true_eq]
      omega
    · simp [State.timeRef, hs]
  | rdFin =>
    obtain ⟨hs, _, _, lv, page, -, hlen, -, rfl⟩ := execRdFin_next hexec
    have hpay : (s.pay ++ [pack lv]).length = 132 := by rw [List.length_append, hlen, List.length_singleton]
    exact inOrder_emitAll (inOrder_findStart h (by rw [hs]; exact nofun)) (renderEvents_inGrid hpay)
  | rdBad =>
    obtain ⟨hs, _, _, _, -, -, -, rfl⟩ := execRdBad_next hexec
    exact inOrder_emitAll (evs := [.error 3 s.cmd0]) (inOrder_badPage (inOrder_findStart h (by rw [hs]; exact nofun)))
      (List.forall_mem_singleton.2 trivial)
  | eos => exact execEos_inOrder (inOrder_eosSeen_false h) hexec
  | haltNop =>
    obtain ⟨-, rfl⟩ := execHaltNop_next hexec
    obtain ⟨hpay, hhalt, hconfig, href, -, hcount, heos, -, hgrid⟩ := h
    exact ⟨hpay, hhalt, hconfig, href, nofun, hcount, heos, fun _ => rfl, hgrid⟩
  | _ => cases hi

/-! ### Reset and responses -/

/-- A reset release needs only the grid in order: it overwrites the rest (R32, R187, R188). -/
theorem exec_rst_inOrder {i : Instr} {s t : State} (hgrid : Memory.wf s.grid = true) (hi : i.format = .rst)
    (hexec : exec i s = .next t) : InOrder t := by
  cases i with
  | rstOk =>
    obtain ⟨-, hmask, hcomplete, hnum, hden, rfl⟩ := execRstOk_next hexec
    have hconfig : configShape (resetRegisters s) = true := by simp [configShape, hmask, hcomplete, hnum, hden]
    have hhalt : haltedShape (resetRegisters s) = true :=
      (haltedShape_iff _).2 (iff_of_false nofun (Bool.eq_false_iff.1 terminal_zero))
    exact ⟨rfl, hhalt, hconfig, nofun, nofun, .inr (Nat.le_refl 0), nofun, nofun, hgrid⟩
  | rstCfgerr =>
    obtain ⟨-, -, rfl⟩ := execRstCfgerr_next hexec
    exact ⟨rfl, (haltedShape_iff _).2 (iff_of_true rfl terminal_cfgErr), rfl, nofun, nofun, .inr (Nat.le_refl 0), nofun,
      nofun, hgrid⟩
  | _ => cases hi

/-- A response that is held comes after every index delivered before, so after the one its state measures from. -/
theorem execRspMatch_inOrder {s t : State} (h : InOrder s) (hcount : s.portLevel = .levelA ∨ s.rspIdx < s.nextIdx)
    (hexec : execRspMatch s = .next t) : InOrder t := by
  obtain ⟨hpay, hhalt, hconfig, href, -, hcount', heos, -, hgrid⟩ := h
  obtain ⟨hout, -, ⟨hs, rfl⟩ | ⟨hs, -, hmin, rfl⟩⟩ := execRspMatch_next hexec
  · exact ⟨hpay, hhalt, hconfig, href, fun _ _ => .inl hs, hcount', heos, fun hrst => absurd hrst (by simp [hout]), hgrid⟩
  · have hdomain : inDomain s (.matched s.rspAlt s.rspIdx s.rspLv) = true := by
      unfold inDomain
      split
      case h_1 x _ _ _ hx hr => cases hr; exact decide_eq_true (Nat.lt_of_lt_of_le (href x hx) hmin)
      case h_2 => rfl
    refine ⟨hpay, hhalt, hconfig, fun x hx => Nat.lt_succ_of_le ((href x hx).le.trans hmin), ?_, hcount, heos,
      fun hrst => absurd hrst (by simp [hout]), hgrid⟩
    rintro r ⟨⟩
    refine .inr ⟨hdomain, ?_⟩
    rintro alt idx lv ⟨⟩
    exact Nat.lt_succ_self _

/-- The end of stream, held out of reset, is in order in every state. -/
theorem inOrder_holdEndOfStream {s : State} (h : InOrder s) (hout : s.rst = false) :
    InOrder { s with rsp := some .endOfStream } := by
  obtain ⟨hpay, hhalt, hconfig, href, -, hcount, heos, -, hgrid⟩ := h
  refine ⟨hpay, hhalt, hconfig, href, ?_, hcount, heos, fun hrst => absurd hrst (by simp [hout]), hgrid⟩
  rintro r ⟨⟩
  exact .inr ⟨inDomain_endOfStream _, nofun⟩

theorem execRspEos_inOrder {s t : State} (h : InOrder s) (hexec : execRspEos s = .next t) : InOrder t := by
  obtain ⟨hout, -, rfl⟩ := execRspEos_next hexec
  exact inOrder_holdEndOfStream h hout

/-- A response row called directly; only at level A are they ports of their own (R152). -/
theorem exec_rsp_inOrder {i : Instr} {s t : State} (h : InOrder s) (hport : s.portLevel = .levelA)
    (hi : i.format = .rsp) (hexec : exec i s = .next t) : InOrder t := by
  cases i with
  | rspMatch => exact execRspMatch_inOrder h (.inl hport) hexec
  | rspEos => exact execRspEos_inOrder h hexec
  | _ => cases hi

/-! ### Any operation that is fetched -/

/-- What a fetched operation finds: a reset release a grid in order, any other operation a state in order, EOS perhaps one
with `eos_seen` just set; the response rows run at level A alone. -/
def Runnable (i : Instr) (u : State) : Prop :=
  (i.format = .rst ∧ Memory.wf u.grid = true) ∨
    (i.format ≠ .rst ∧ InOrder u ∧ (u.portLevel = .levelA ∨ i.format ≠ .rsp)) ∨
    (i = .eos ∧ InOrder { u with eosSeen := false })

theorem exec_inOrder {i : Instr} {u v : State} (h : Runnable i u) (hexec : exec i u = .next v) : InOrder v := by
  rcases h with ⟨hrst, hgrid⟩ | ⟨hrst, horder, hport⟩ | ⟨rfl, horder⟩
  · exact exec_rst_inOrder hgrid hrst hexec
  · by_cases htk : i.format = .tk
    · exact exec_tk_inOrder horder htk hexec
    by_cases hrsp : i.format = .rsp
    · exact exec_rsp_inOrder horder (hport.resolve_right (absurd hrsp)) hrsp hexec
    exact inOrder_runsAlone horder (exec_runsAlone htk hrst hrsp hexec)
  · exact execEos_inOrder horder hexec

/-! ### Fetching -/

/-- What is fetched keeps the invariant: the step is over in a state that has it, or the operation finds what it needs. -/
def FetchesInOrder : Fetched → Prop
  | .done (.next t) => t.inv = true
  | .done (.fault _) => True
  | .done (.refused _) => True
  | .run i u => Runnable i u

theorem runnable_of_inOrder {i : Instr} {u : State} (h : InOrder u) (hport : u.portLevel = .levelA ∨ i.format ≠ .rsp) :
    Runnable i u := by
  by_cases hrst : i.format = .rst
  · obtain ⟨-, -, -, -, -, -, -, -, hgrid⟩ := h
    exact .inl ⟨hrst, hgrid⟩
  · exact .inr (.inl ⟨hrst, h, hport⟩)

theorem selectOp_fetchesInOrder {s : State} (h : s.inv = true) : FetchesInOrder (selectOp s) := by
  cases hsel : selectOp s with
  | run i u =>
    obtain ⟨hi, rfl⟩ := selectOp_run_tk hsel
    exact runnable_of_inOrder ((inv_iff u).1 h).1 (.inr (by rw [hi]; exact nofun))
  | done o =>
    cases o with
    | next t => obtain ⟨-, rfl⟩ := selectOp_next hsel; exact h
    | fault e => trivial
    | refused r => trivial

theorem deliver_fetchesInOrder {o : Res} (h : ∀ t, o = .next t → t.inv = true) : FetchesInOrder (deliver o) := by
  cases o with
  | next t => exact selectOp_fetchesInOrder (h t rfl)
  | fault e => trivial
  | refused r => trivial

/-- Holding a response leaves the request as it is. -/
theorem execRspMatch_inv {s t : State} (h : s.inv = true) (hcount : s.portLevel = .levelA ∨ s.rspIdx < s.nextIdx)
    (hexec : execRspMatch s = .next t) : t.inv = true := by
  obtain ⟨horder, hreq⟩ := (inv_iff s).1 h
  refine (inv_iff t).2 ⟨execRspMatch_inOrder horder hcount hexec, ?_⟩
  obtain ⟨-, -, ⟨-, rfl⟩ | ⟨-, -, -, rfl⟩⟩ := execRspMatch_next hexec
  · exact hreq
  · exact hreq

theorem execRspEos_inv {s t : State} (h : s.inv = true) (hexec : execRspEos s = .next t) : t.inv = true := by
  obtain ⟨horder, hreq⟩ := (inv_iff s).1 h
  refine (inv_iff t).2 ⟨execRspEos_inOrder horder hexec, ?_⟩
  obtain ⟨-, -, rfl⟩ := execRspEos_next hexec
  exact hreq

/-- The front-end's counter moves past the index it hands out. -/
theorem acceptSample_inv {s : State} (lv : Levels) (h : s.inv = true) : (acceptSample lv s).inv = true := by
  obtain ⟨⟨hpay, hhalt, hconfig, href, hrsp, hcount, hrest⟩, hreq⟩ := (inv_iff s).1 h
  exact (inv_iff _).2 ⟨⟨hpay, hhalt, hconfig, href, hrsp, hcount.imp_right Nat.le_succ_of_le, hrest⟩, hreq⟩

theorem frontEndSample_fetchesInOrder (lv : Levels) {s : State} (h : s.inv = true) :
    FetchesInOrder (frontEndSample lv s) := by
  unfold frontEndSample
  split
  · exact h
  · split
    · exact acceptSample_inv lv h
    case h_2 alt _ =>
      have hpins : (drivePins alt s.nextIdx lv (acceptSample lv s)).inv = true := acceptSample_inv lv h
      exact deliver_fetchesInOrder fun t => execRspMatch_inv hpins (.inr (Nat.lt_succ_self s.nextIdx))

/-- At the `End` mark out of HALTED the operation that runs is EOS. -/
theorem frontEndEnd_fetchesInOrder {s : State} (h : s.inv = true) : FetchesInOrder (frontEndEnd s) := by
  unfold frontEndEnd
  split
  case isTrue => exact h
  case isFalse hgoes =>
    simp only [Bool.or_eq_true, decide_eq_true_eq, not_or] at hgoes
    obtain ⟨-, hs⟩ := hgoes
    obtain ⟨horder, -⟩ := (inv_iff s).1 h
    cases hexec : execRspEos { s with eosSeen := true } with
    | next t =>
      obtain ⟨hout, -, rfl⟩ := execRspEos_next hexec
      have hselect := selectOp_of_matches (s := { s with eosSeen := true, rsp := some .endOfStream }) (i := .eos) rfl
        (inDomain_endOfStream _) (key_matches_eos hs) (by decide)
      simp only [deliver, hselect]
      have horder' := inOrder_eosSeen_false (s := { s with rsp := some .endOfStream }) (inOrder_holdEndOfStream horder hout)
      exact .inr (.inr ⟨rfl, horder'⟩)
    | fault e => trivial
    | refused r => trivial

theorem handIn_fetchesInOrder (r : Response) {s : State} (h : s.inv = true) (hport : s.portLevel = .levelA) :
    FetchesInOrder (handIn r s) := by
  cases r with
  | matched alt idx lv =>
    exact deliver_fetchesInOrder fun t =>
      execRspMatch_inv (s := { s with rspAlt := alt, rspIdx := idx, rspLv := lv }) h (.inl hport)
  | endOfStream => exact deliver_fetchesInOrder fun t => execRspEos_inv h

theorem directCall_fetchesInOrder (f : Format) (w : Nat) (args : Args) {s : State} (h : s.inv = true) :
    FetchesInOrder (directCall f w args s) := by
  obtain ⟨horder, -⟩ := (inv_iff s).1 h
  unfold directCall
  split
  · trivial
  case isFalse hport =>
    split
    case h_1 i hdecode =>
      refine runnable_of_inOrder (inOrder_quiet horder args s.ret s.reqSel) ?_
      rw [decode_format hdecode]
      cases hlevel : s.portLevel with
      | levelA => exact .inl rfl
      | levelB => exact .inr fun hf => hport ⟨hlevel, hf⟩
    · trivial

theorem assertReset_inv {s : State} (h : s.inv = true) : (assertReset s).inv = true := by
  obtain ⟨⟨hpay, hhalt, hconfig, href, -, hcount, heos, -, hgrid⟩, -⟩ := (inv_iff s).1 h
  exact (inv_iff _).2 ⟨⟨hpay, hhalt, hconfig, href, nofun, hcount, heos, fun _ => rfl, hgrid⟩, rfl⟩

theorem accept_fetchesInOrder (item : Input) {s : State} (h : s.inv = true) : FetchesInOrder (accept item s) := by
  cases item with
  | sample lv =>
    simp only [accept]
    split
    · exact frontEndSample_fetchesInOrder lv h
    · trivial
  | endMark =>
    simp only [accept]
    split
    · exact frontEndEnd_fetchesInOrder h
    · trivial
  | response r =>
    simp only [accept]
    split
    case isTrue hport => exact handIn_fetchesInOrder r h hport
    case isFalse => trivial
  | rstAssert => exact assertReset_inv h
  | rstRelease m n d => trivial
  | call f w args => exact directCall_fetchesInOrder f w args h

theorem fetchInReset_fetchesInOrder {s : State} (h : s.inv = true) : FetchesInOrder (fetchInReset s) := by
  obtain ⟨⟨-, -, -, -, -, -, -, -, hgrid⟩, -⟩ := (inv_iff s).1 h
  unfold fetchInReset
  split
  · rw [releaseOp_eq]
    refine .inl ⟨?_, hgrid⟩
    split <;> rfl
  · exact h
  · exact h

theorem fetch_fetchesInOrder {s : State} (h : s.inv = true) : FetchesInOrder (fetch s) := by
  unfold fetch
  split
  · exact fetchInReset_fetchesInOrder h
  · split
    case h_1 rest _ => exact assertReset_inv (s := { s with inputs := rest }) h
    case h_2 => exact selectOp_fetchesInOrder h
    case h_3 item rest _ _ =>
      split
      · exact selectOp_fetchesInOrder h
      · exact accept_fetchesInOrder item (s := { s with inputs := rest }) h

/-! ### The obligations -/

/-- Settles O3: what is fetched finds what it needs, the operation leaves a state in order, and the wait after it puts the
request of that state on the port. -/
theorem stepKeepsInvariant : Obligations.StepKeepsInvariant := by
  unfold Obligations.StepKeepsInvariant
  intro s t h hstep
  have hfetch := fetch_fetchesInOrder h
  rcases step_next hstep with hdone | ⟨i, u, v, hrun, hexec, rfl⟩
  · rw [hdone] at hfetch
    exact hfetch
  · rw [hrun] at hfetch
    exact (inv_iff _).2 ⟨inOrder_quiet (exec_inOrder hfetch hexec) v.args v.ret v.request, rfl⟩

/-- Settles O2, by evaluating the invariant. -/
theorem resetHasInvariant : Obligations.ResetHasInvariant := by
  unfold Obligations.ResetHasInvariant
  decide

/-- Settles O1, field by field. -/
theorem resetStateValues : Obligations.ResetStateValues := by
  unfold Obligations.ResetStateValues
  exact ⟨rfl, rfl, rfl, rfl, rfl, rfl, rfl, rfl, rfl, rfl, rfl⟩

end Sys2Proof.Machine.Invariant

namespace Sys2Proof.Machine.OneStep

open FramingFsm
open RwAndE (fetch_of_item fetch_of_no_response releaseOp_eq)
open FirstSample (fetch_sample_levelB frontEndSample_of_no_match step_of_done)
open Invariant (inv_iff)

/-! R100, R135, R139, R141, R181, R185: one step of the machine. A held response selects the operation of R100's pseudocode,
which completes; a response row holds what the driver or the front-end hands over; so taking an answer of the wait and
running the transition it selects is one step. The reset line, a direct call and an empty input have a step each. -/

/-! ### A held response (R100) -/

theorem request_of_halted {s : State} (hs : s.state = .halted) : s.request = 0 := by
  simp [State.request, reqOf, hs]

theorem inDomain_halted {s : State} (hs : s.state = .halted) (r : Response) : inDomain s r = true := by
  simp only [inDomain, State.timeRef, hs]

/-- The state code of HALTED alone decides (R69). -/
theorem key_matches_haltNop {s : State} (hs : s.state = .halted) (r : Response) :
    transitionKey s r &&& 0xE0 = 0x80 := by
  simp only [transitionKey, hs, Fsm.code]
  generalize keyEos r = eos
  generalize keyAlt r = alt
  generalize keyCls s r = cls
  generalize keyLast s r = last
  generalize keyPageok s r = pageok
  revert eos alt cls last pageok
  decide

theorem exec_haltNop {s : State} (hs : s.state = .halted) : exec .haltNop s = .next { s with rsp := none } := by
  simp [exec, execHaltNop, hs, consume]

/-- The response that `s` holds selects `i`, and `i` completes. -/
def SelectsCompleting (s : State) (i : Instr) : Prop := selectOp s = .run i s ∧ ∃ u, exec i s = .next u

theorem selectsCompleting {s u : State} {r : Response} {code mask : Key} {i : Instr} (hr : s.rsp = some r)
    (hd : inDomain s r = true) (hk : transitionKey s r &&& mask = code) (hu : exec i s = .next u)
    (hrow : (⟨code, mask, i⟩ : TkRow) ∈ tkRows := by decide) : SelectsCompleting s i :=
  ⟨selectOp_of_matches hr hd hk hrow, u, hu⟩

theorem lt_of_inDomain_verifyStart {s : State} {alt : BitVec 1} {idx : Nat} {lv : Levels} (hs : s.state = .verifyStart)
    (hd : inDomain s (.matched alt idx lv) = true) : s.candIdx < idx := by
  simpa only [inDomain, State.timeRef, hs, decide_eq_true_eq] using hd

theorem lt_of_inDomain_findNextStartClk {s : State} {alt : BitVec 1} {idx : Nat} {lv : Levels}
    (hs : s.state = .findNextStartClk) (hd : inDomain s (.matched alt idx lv) = true) : s.refIdx < idx := by
  simpa only [inDomain, State.timeRef, hs, decide_eq_true_eq] using hd

section Matched
variable {s : State} {alt : BitVec 1} {idx : Nat} {lv : Levels} (hr : s.rsp = some (.matched alt idx lv))
include hr

theorem selects_findStart (hs : s.state = .findStart) : SelectsCompleting s (if alt = 0 then .fsA else .fsB) := by
  have hd := inDomain_findStart hs (.matched alt idx lv)
  have halt : ∀ alt : BitVec 1, alt = 0 ∨ alt = 1 := by decide
  rcases halt alt with rfl | rfl
  · exact selectsCompleting hr hd (key_matches_fsA hs) (exec_fsA hs hr)
  · exact selectsCompleting hr hd (key_matches_fsB hs) (exec_fsB hs hr)

theorem selects_verifyStart (hs : s.state = .verifyStart) (hd : inDomain s (.matched alt idx lv) = true) :
    SelectsCompleting s (if s.startInTime idx then .vsAcc else .vsRej) := by
  have hlt := lt_of_inDomain_verifyStart hs hd
  cases ht : s.startInTime idx with
  | true => exact selectsCompleting hr hd (key_matches_vsAcc hs ht) (exec_vsAcc hs hr hlt ht)
  | false => exact selectsCompleting hr hd (key_matches_vsRej hs ht) (exec_vsRej hs hr hlt ht)

theorem selects_findNextStartClk (hs : s.state = .findNextStartClk) (hd : inDomain s (.matched alt idx lv) = true) :
    SelectsCompleting s (if s.clockInTime idx then (if s.cmd.length = 2 then .ncFin else .ncAcc) else .ncRej) := by
  have hlt := lt_of_inDomain_findNextStartClk hs hd
  cases ht : s.clockInTime idx with
  | true =>
    by_cases hlast : s.cmd.length = 2
    · simp only [hlast, if_true]
      exact selectsCompleting hr hd (key_matches_ncFin hs ht hlast) (exec_ncFin hs hr hlt ht hlast)
    · simp only [hlast, if_true, if_false]
      exact selectsCompleting hr hd (key_matches_ncAcc hs ht hlast) (exec_ncAcc hs hr hlt ht hlast)
  | false =>
    simp only [Bool.false_eq_true, if_false]
    exact selectsCompleting hr hd (key_matches_ncRej hs ht) (exec_ncRej hs hr hlt ht)

theorem selects_readData (hs : s.state = .readData) : SelectsCompleting s (if s.pay.length = 131 then
    (if 176 ≤ s.cmd0.toNat ∧ s.cmd0.toNat ≤ 183 then .rdFin else .rdBad) else .rdAcc) := by
  have hd := inDomain_readData hs (.matched alt idx lv)
  by_cases hlast : s.pay.length = 131
  · rw [if_pos hlast]
    have hlegal := pageOf_isSome s.cmd0
    cases hpage : pageOf s.cmd0 with
    | some page =>
      rw [hpage, Option.isSome_some, eq_comm, decide_eq_true_iff] at hlegal
      rw [if_pos hlegal]
      exact selectsCompleting hr hd (key_matches_rdFin hs hlast hpage) (exec_rdFin hs hr hlast hpage)
    | none =>
      rw [hpage, Option.isSome_none, eq_comm, decide_eq_false_iff_not] at hlegal
      rw [if_neg hlegal]
      exact selectsCompleting hr hd (key_matches_rdBad hs hlast hpage) (exec_rdBad hs hr hlast hpage)
  · rw [if_neg hlast]
    exact selectsCompleting hr hd (key_matches_rdAcc hs hlast) (exec_rdAcc hs hr hlast)

end Matched

theorem selects_endOfStream {s : State} (hs : s.state ≠ .halted) (hr : s.rsp = some .endOfStream) :
    SelectsCompleting s .eos :=
  selectsCompleting hr (inDomain_endOfStream s) (key_matches_eos hs) (exec_eos hs hr)

theorem selects_halted {s : State} {r : Response} (hs : s.state = .halted) (hr : s.rsp = some r) :
    SelectsCompleting s .haltNop :=
  selectsCompleting hr (inDomain_halted hs r) (key_matches_haltNop hs r) (exec_haltNop hs)

/-- The key selects the operation that the pseudocode of R100 performs, and it completes. -/
theorem selects_operationOf {s : State} {r : Response} (hr : s.rsp = some r) (hd : inDomain s r = true) :
    SelectsCompleting s (operationOf s r) := by
  cases hs : s.state with
  | halted =>
    simp only [operationOf, hs]
    exact selects_halted hs hr
  | findStart =>
    cases r with
    | matched alt idx lv =>
      simp only [operationOf, hs]
      exact selects_findStart hr hs
    | endOfStream =>
      simp only [operationOf, hs]
      exact selects_endOfStream (by rw [hs]; exact nofun) hr
  | verifyStart =>
    cases r with
    | matched alt idx lv =>
      simp only [operationOf, hs]
      exact selects_verifyStart hr hs hd
    | endOfStream =>
      simp only [operationOf, hs]
      exact selects_endOfStream (by rw [hs]; exact nofun) hr
  | findNextStartClk =>
    cases r with
    | matched alt idx lv =>
      simp only [operationOf, hs]
      exact selects_findNextStartClk hr hs hd
    | endOfStream =>
      simp only [operationOf, hs]
      exact selects_endOfStream (by rw [hs]; exact nofun) hr
  | readData =>
    cases r with
    | matched alt idx lv =>
      simp only [operationOf, hs]
      exact selects_readData hr hs
    | endOfStream =>
      simp only [operationOf, hs]
      exact selects_endOfStream (by rw [hs]; exact nofun) hr

/-- The operation that is fetched, completing, is the step, with the request of its state on the port. -/
theorem step_of_exec {s t u : State} {i : Instr} (hf : fetch s = .run i t) (hu : exec i t = .next u) :
    step s = .next { u with reqSel := u.request } := by
  rw [step_of_run hf, hu, issueWait_next]

/-- Where the operation leaves CORE in HALTED, no request is on the port (R113). -/
theorem step_of_exec_halted {s t u : State} {i : Instr} (hf : fetch s = .run i t) (hu : exec i t = .next u)
    (hs : u.state = .halted) : step s = .next { u with reqSel := 0 } := by
  rw [step_of_exec hf hu, request_of_halted hs]

/-- A step that comes to a held response runs the operation of R100's pseudocode. -/
theorem step_of_held {s t : State} {r : Response} (hf : fetch s = selectOp t) (hr : t.rsp = some r)
    (hd : inDomain t r = true) :
    ∃ u, exec (operationOf t r) t = .next u ∧ step s = .next { u with reqSel := u.request } := by
  obtain ⟨hsel, u, hu⟩ := selects_operationOf hr hd
  exact ⟨u, hu, step_of_exec (hf.trans hsel) hu⟩

/-- At the end of stream that operation is EOS, and no request is on the port after it. -/
theorem step_of_endOfStream {s t : State} (hf : fetch s = selectOp t) (hr : t.rsp = some .endOfStream)
    (hs : t.state ≠ .halted) :
    step s = .next { t with status := t.status ||| 2, cmd := [], pay := [], state := .halted, rsp := none, reqSel := 0 } :=
  step_of_exec_halted (hf.trans (selects_endOfStream hs hr).1) (exec_eos hs hr) rfl

/-- In HALTED it only drops the response. -/
theorem step_of_halted {s t : State} {r : Response} (hf : fetch s = selectOp t) (hr : t.rsp = some r)
    (hs : t.state = .halted) : step s = .next { t with rsp := none, reqSel := 0 } :=
  step_of_exec_halted (hf.trans (selects_halted hs hr).1) (exec_haltNop hs) hs

/-- A held response comes before any item but a reset assertion. -/
theorem fetch_of_held {s : State} {r : Response} (hrst : s.rst = false) (hr : s.rsp = some r)
    (hin : ∀ rest, s.inputs ≠ .rstAssert :: rest) : fetch s = selectOp s := by
  cases hinputs : s.inputs with
  | nil => simp only [fetch, hrst, hinputs]; rfl
  | cons item rest =>
    have hitem : item ≠ .rstAssert := fun he => hin rest (he ▸ hinputs)
    rw [fetch_of_item hrst hinputs hitem, hr]
    rfl

/-- Settles O4: `operationOf` is what the key selects, and it completes. -/
theorem stepRunsSelectedTransition : Obligations.StepRunsSelectedTransition := by
  unfold Obligations.StepRunsSelectedTransition
  intro s r hrst hr hd hin
  have hf := fetch_of_held hrst hr hin
  exact ⟨hf.trans (selects_operationOf hr hd).1, step_of_held hf hr hd⟩

/-! ### The response rows (R65, R135, R138) -/

section ResponseRows
variable {s : State} (hrst : s.rst = false) (hrsp : s.rsp = none)
include hrst hrsp

theorem exec_rspMatch_fits (hs : s.state ≠ .halted) (hfits : responseFits s.request s.rspAlt s.rspLv = true)
    (hidx : s.minIdx ≤ s.rspIdx) : exec .rspMatch s =
      .next { s with rsp := some (.matched s.rspAlt s.rspIdx s.rspLv), minIdx := s.rspIdx + 1 } := by
  simp [exec, execRspMatch, hrst, hrsp, hs, hfits, Nat.not_lt_of_le hidx]

theorem exec_rspMatch_late (hs : s.state ≠ .halted) (hfits : responseFits s.request s.rspAlt s.rspLv = true)
    (hidx : s.rspIdx < s.minIdx) : exec .rspMatch s = .refused .indicesNotIncreasing := by
  simp [exec, execRspMatch, hrst, hrsp, hs, hfits, hidx]

theorem exec_rspMatch_unfit (hs : s.state ≠ .halted) (hfits : responseFits s.request s.rspAlt s.rspLv = false) :
    exec .rspMatch s = .refused .responseNotOfRequest := by
  simp [exec, execRspMatch, hrst, hrsp, hs, hfits]

theorem exec_rspMatch_halted (hs : s.state = .halted) :
    exec .rspMatch s = .next { s with rsp := some (.matched s.rspAlt s.rspIdx s.rspLv) } := by
  simp [exec, execRspMatch, hrst, hrsp, hs]

theorem exec_rspEos : exec .rspEos s = .next { s with rsp := some .endOfStream } := by
  simp [exec, execRspEos, hrst, hrsp]

end ResponseRows

/-- Settles O46: the guards of the two rows, one after another. -/
theorem responseTaken : Obligations.ResponseTaken := by
  unfold Obligations.ResponseTaken
  exact fun s hrst hrsp => ⟨exec_rspMatch_fits hrst hrsp, exec_rspMatch_late hrst hrsp, exec_rspMatch_unfit hrst hrsp,
    exec_rspMatch_halted hrst hrsp, exec_rspEos hrst hrsp⟩

/-! ### Taking an answer of the wait (R135, R139, R141) -/

/-- A response row that completes is followed by the selection. -/
theorem deliver_of_next {o : Res} {t : State} (ho : o = .next t) : deliver o = selectOp t := by rw [ho]; rfl

section Taking
variable {s : State} {rest : List Input} (hrst : s.rst = false) (hrsp : s.rsp = none)
include hrst hrsp

/-- A fitting level-A response is held with its fields on the pins. -/
theorem fetch_response_fits {alt : BitVec 1} {idx : Nat} {lv : Levels} (hs : s.state ≠ .halted)
    (hport : s.portLevel = .levelA) (hin : s.inputs = .response (.matched alt idx lv) :: rest)
    (hfits : responseFits s.request alt lv = true) (hidx : s.minIdx ≤ idx) :
    fetch s = selectOp { s with inputs := rest, rspAlt := alt, rspIdx := idx, rspLv := lv,
                                rsp := some (.matched alt idx lv), minIdx := idx + 1 } := by
  rw [fetch_of_no_response hrst hrsp hin, accept, if_pos hport]
  exact deliver_of_next (exec_rspMatch_fits
    (s := { s with inputs := rest, rspAlt := alt, rspIdx := idx, rspLv := lv }) hrst hrsp hs hfits hidx)

theorem fetch_response_endOfStream (hport : s.portLevel = .levelA) (hin : s.inputs = .response .endOfStream :: rest) :
    fetch s = selectOp { s with inputs := rest, rsp := some .endOfStream } := by
  rw [fetch_of_no_response hrst hrsp hin, accept, if_pos hport]
  exact deliver_of_next (exec_rspEos (s := { s with inputs := rest }) hrst hrsp)

/-- In HALTED any level-A response is held. -/
theorem fetch_response_halted {alt : BitVec 1} {idx : Nat} {lv : Levels} (hs : s.state = .halted)
    (hport : s.portLevel = .levelA) (hin : s.inputs = .response (.matched alt idx lv) :: rest) :
    fetch s = selectOp { s with inputs := rest, rspAlt := alt, rspIdx := idx, rspLv := lv,
                                rsp := some (.matched alt idx lv) } := by
  rw [fetch_of_no_response hrst hrsp hin, accept, if_pos hport]
  exact deliver_of_next (exec_rspMatch_halted
    (s := { s with inputs := rest, rspAlt := alt, rspIdx := idx, rspLv := lv }) hrst hrsp hs)

omit hrst hrsp in
/-- Before the end and out of HALTED, the front-end answers the wait with a Sample that satisfies an alternative. -/
theorem frontEndSample_of_match {lv : Levels} {alt : Nat} (hs : s.state ≠ .halted) (heos : s.eosSeen = false)
    (hmatch : firstMatch (patternSet s.request) s.prevValid s.prev lv = some alt) :
    frontEndSample lv s = deliver (exec .rspMatch (drivePins alt s.nextIdx lv (acceptSample lv s))) := by
  simp [frontEndSample, heos, hs, hmatch, exec]

/-- A Sample that satisfies alternative `alt` is held with the front-end's counter as its index. -/
theorem fetch_sample_matched {lv : Levels} {alt : BitVec 1} (hs : s.state ≠ .halted) (hport : s.portLevel = .levelB)
    (hin : s.inputs = .sample lv :: rest) (heos : s.eosSeen = false)
    (hmatch : firstMatch (patternSet s.request) s.prevValid s.prev lv = some alt.toNat)
    (hfits : responseFits s.request alt lv = true) (hidx : s.minIdx ≤ s.nextIdx) :
    fetch s = selectOp { s with inputs := rest, prev := lv, prevValid := true, nextIdx := s.nextIdx + 1,
                                rspAlt := alt, rspIdx := s.nextIdx, rspLv := lv,
                                rsp := some (.matched alt s.nextIdx lv), minIdx := s.nextIdx + 1 } := by
  have halt : BitVec.ofNat 1 alt.toNat = alt := BitVec.ofNat_toNat _ _
  rw [fetch_sample_levelB hrst hrsp hport hin,
    frontEndSample_of_match (s := { s with inputs := rest }) hs heos hmatch, drivePins, halt]
  exact deliver_of_next (exec_rspMatch_fits
    (s := { acceptSample lv { s with inputs := rest } with rspAlt := alt, rspIdx := s.nextIdx, rspLv := lv })
    hrst hrsp hs hfits hidx)

theorem fetch_endMark (hs : s.state ≠ .halted) (hport : s.portLevel = .levelB) (hin : s.inputs = .endMark :: rest)
    (heos : s.eosSeen = false) :
    fetch s = selectOp { s with inputs := rest, eosSeen := true, rsp := some .endOfStream } := by
  have hgoes : (s.eosSeen || decide (s.state = .halted)) = false := by simp [heos, hs]
  rw [fetch_of_no_response hrst hrsp hin, accept, if_pos hport, frontEndEnd]
  simp only [hgoes, Bool.false_eq_true, if_false]
  exact deliver_of_next (exec_rspEos (s := { s with inputs := rest, eosSeen := true }) hrst hrsp)

/-- After the end, or in HALTED, the front-end drops an item of the stream. -/
theorem fetch_late {item : Input} (hport : s.portLevel = .levelB) (hlate : s.eosSeen = true ∨ s.state = .halted)
    (hin : s.inputs = item :: rest) (hitem : (∃ lv, item = .sample lv) ∨ item = .endMark) :
    fetch s = .done (.next { s with inputs := rest }) := by
  have hdrop : (s.eosSeen || decide (s.state = .halted)) = true := by simpa using hlate
  rw [fetch_of_no_response hrst hrsp hin]
  rcases hitem with ⟨lv, rfl⟩ | rfl
  · rw [accept, if_pos hport, frontEndSample, if_pos hdrop]
  · rw [accept, if_pos hport, frontEndEnd, if_pos hdrop]

/-- A Sample that matches nothing stays in the front-end. -/
theorem fetch_sample_unmatched {lv : Levels} (hs : s.state ≠ .halted) (hport : s.portLevel = .levelB)
    (hin : s.inputs = .sample lv :: rest) (heos : s.eosSeen = false)
    (hnone : firstMatch (patternSet s.request) s.prevValid s.prev lv = none) :
    fetch s = .done (.next (acceptSample lv { s with inputs := rest })) :=
  (fetch_sample_levelB hrst hrsp hport hin).trans (frontEndSample_of_no_match (s := { s with inputs := rest }) heos hs hnone)

end Taking

/-- Settles O47: the front-end ends the step with the Sample remembered. -/
theorem unmatchedSampleConsumed : Obligations.UnmatchedSampleConsumed := by
  unfold Obligations.UnmatchedSampleConsumed
  intro s lv rest hrst hrsp hport heos hs hin hnone
  exact step_of_done (fetch_sample_unmatched hrst hrsp hs hport hin heos hnone)

/-- Settles O48: the front-end's first test drops the item. -/
theorem lateItemsDropped : Obligations.LateItemsDropped := by
  unfold Obligations.LateItemsDropped
  intro s item rest hrst hrsp hport hlate hin hitem
  exact step_of_done (fetch_late hrst hrsp hport hlate hin hitem)

/-! ### What fits and what matches (R62, R138, R142) -/

/-- A predicate that holds leaves a level that it can leave. -/
theorem levelAfter_of_predicateHolds {code : Nat} {prevValid before now : Bool}
    (h : predicateHolds code prevValid before now = true) : levelAfter code now = true := by
  unfold predicateHolds at h
  unfold levelAfter
  split at h <;> simp_all

/-- The alternative that the front-end reports exists, and the Sample fits it. -/
theorem responseFits_of_firstMatch {req : BitVec 2} {prevValid : Bool} {prev lv : Levels} {alt : Nat}
    (h : firstMatch (patternSet req) prevValid prev lv = some alt) :
    (BitVec.ofNat 1 alt).toNat = alt ∧ responseFits req (BitVec.ofNat 1 alt) lv = true := by
  obtain ⟨hlen, hmatch, -⟩ := List.findIdx?_eq_some_iff_getElem.1 h
  have hsets : ∀ req : BitVec 2, (patternSet req).length ≤ 2 := by decide
  have htwo := hsets req
  have halt : (BitVec.ofNat 1 alt).toNat = alt := by
    rw [BitVec.toNat_ofNat, Nat.mod_eq_of_lt (by omega)]
  refine ⟨halt, ?_⟩
  have hget : (patternSet req)[(BitVec.ofNat 1 alt).toNat]? = some (patternSet req)[alt] := by
    rw [halt, List.getElem?_eq_getElem hlen]
  simp only [responseFits, hget]
  refine List.all_eq_true.2 fun k hk => ?_
  exact levelAfter_of_predicateHolds (List.all_eq_true.1 hmatch k hk)

/-! ### Delivery and transition in one step -/

/-- Settles O5: taking the answer comes to a held response, which selects the operation of R100. -/
theorem deliveredSampleRunsTransition : Obligations.DeliveredSampleRunsTransition := by
  unfold Obligations.DeliveredSampleRunsTransition
  intro s rest hrst hrsp hs
  refine ⟨fun lv alt idx hport hin hfits hidx hd => ?_, fun lv alt hport hin heos hmatch hidx hd => ?_,
    fun hport hin => ?_, fun hport hin heos => ?_⟩
  · obtain ⟨u, hu, hstep⟩ := step_of_held (fetch_response_fits hrst hrsp hs hport hin hfits hidx) rfl hd
    exact ⟨_, u, rfl, hu, hstep⟩
  · obtain ⟨-, hfits⟩ := responseFits_of_firstMatch hmatch
    rw [BitVec.ofNat_toNat, BitVec.setWidth_eq] at hfits
    obtain ⟨u, hu, hstep⟩ := step_of_held (fetch_sample_matched hrst hrsp hs hport hin heos hmatch hfits hidx) rfl hd
    exact ⟨_, u, rfl, hu, hstep⟩
  · have hstep := step_of_endOfStream (fetch_response_endOfStream hrst hrsp hport hin) rfl hs
    have hu := exec_eos (s := { s with inputs := rest, rsp := some .endOfStream }) hs rfl
    simp only [hrsp]
    exact ⟨hu, hstep⟩
  · have hstep := step_of_endOfStream (fetch_endMark hrst hrsp hs hport hin heos) rfl hs
    have hu := exec_eos (s := { s with inputs := rest, eosSeen := true, rsp := some .endOfStream }) hs rfl
    simp only [hrsp]
    exact ⟨hu, hstep⟩

/-- Settles O27: every key with the state code of HALTED is of row HALT.NOP, and any response is held for it. -/
theorem haltedIgnoresResponse : Obligations.HaltedIgnoresResponse := by
  unfold Obligations.HaltedIgnoresResponse
  intro s hs
  refine ⟨fun r hr => ⟨request_of_halted hs, key_matches_haltNop hs r, (selects_halted hs hr).1, exec_haltNop hs⟩, ?_⟩
  intro hrst hrsp hport rest
  simp only [hrsp]
  exact ⟨fun alt idx lv hin => step_of_halted (fetch_response_halted hrst hrsp hs hport hin) rfl hs,
    fun hin => step_of_halted (fetch_response_endOfStream hrst hrsp hport hin) rfl hs⟩

/-! ### A level-B stream (R100) -/

/-- Under the invariant a held response lies in the domain of the time difference. -/
theorem inDomain_of_inv {s : State} {r : Response} (h : s.inv = true) (hr : s.rsp = some r) : inDomain s r = true := by
  obtain ⟨⟨-, -, -, -, hrsp, -⟩, -⟩ := (inv_iff s).1 h
  rcases hrsp r hr with hs | ⟨hd, -⟩
  · exact inDomain_halted hs r
  · exact hd

/-- Under the invariant an index from the least allowed one on lies in the domain. -/
theorem inDomain_of_minIdx_le {s : State} {alt : BitVec 1} {idx : Nat} {lv : Levels} (h : s.inv = true)
    (hidx : s.minIdx ≤ idx) : inDomain s (.matched alt idx lv) = true := by
  obtain ⟨⟨-, -, -, href, -⟩, -⟩ := (inv_iff s).1 h
  unfold inDomain
  split
  case h_1 x _ _ _ hx hr => cases hr; exact decide_eq_true (Nat.lt_of_lt_of_le (href x hx) hidx)
  case h_2 => rfl

section LevelB
variable {s : State} {rest : List Input} (hrst : s.rst = false) (hrsp : s.rsp = none) (hport : s.portLevel = .levelB)
include hrst hrsp hport

/-- A Sample before the end and out of HALTED stays in the front-end, or answers the wait with an index in the domain. -/
theorem sample_completes {lv : Levels} (hinv : s.inv = true) (heos : s.eosSeen = false) (hs : s.state ≠ .halted)
    (hin : s.inputs = .sample lv :: rest) : ∃ t, step s = .next t := by
  cases hmatch : firstMatch (patternSet s.request) s.prevValid s.prev lv with
  | none => exact ⟨_, step_of_done (fetch_sample_unmatched hrst hrsp hs hport hin heos hmatch)⟩
  | some alt =>
    obtain ⟨halt, hfits⟩ := responseFits_of_firstMatch hmatch
    obtain ⟨⟨-, -, -, -, -, hcount, -⟩, -⟩ := (inv_iff s).1 hinv
    have hidx : s.minIdx ≤ s.nextIdx := hcount.resolve_left (by rw [hport]; exact nofun)
    rw [← halt] at hmatch
    have hf := fetch_sample_matched hrst hrsp hs hport hin heos hmatch hfits hidx
    obtain ⟨u, -, hstep⟩ := step_of_held hf rfl (inDomain_of_minIdx_le (s := s) hinv hidx)
    exact ⟨_, hstep⟩

/-- The `End` mark before the end and out of HALTED runs EOS. -/
theorem endMark_completes (heos : s.eosSeen = false) (hs : s.state ≠ .halted) (hin : s.inputs = .endMark :: rest) :
    ∃ t, step s = .next t :=
  ⟨_, step_of_endOfStream (fetch_endMark hrst hrsp hs hport hin heos) rfl hs⟩

end LevelB

/-- Settles O11: in reset an item is held back; else a held response is acted on, or the item is dropped, kept in the
front-end or taken as the answer of the wait. -/
theorem levelBStreamNeverStops : Obligations.LevelBStreamNeverStops := by
  unfold Obligations.LevelBStreamNeverStops
  intro s item rest hinv hport hin hitem
  cases hrst : s.rst with
  | true =>
    refine ⟨s, step_of_done ?_⟩
    rcases hitem with ⟨lv, rfl⟩ | rfl <;> simp only [fetch, hrst, fetchInReset, hin, if_true]
  | false =>
    cases hrsp : s.rsp with
    | some r =>
      have hnoreset : ∀ rest', s.inputs ≠ .rstAssert :: rest' := by
        rcases hitem with ⟨lv, rfl⟩ | rfl <;> rw [hin] <;> exact nofun
      obtain ⟨u, -, hstep⟩ := step_of_held (fetch_of_held hrst hrsp hnoreset) hrsp (inDomain_of_inv hinv hrsp)
      exact ⟨_, hstep⟩
    | none =>
      by_cases hlate : s.eosSeen = true ∨ s.state = .halted
      · exact ⟨_, step_of_done (fetch_late hrst hrsp hport hlate hin hitem)⟩
      · obtain ⟨heos, hs⟩ := not_or.1 hlate
        rw [Bool.not_eq_true] at heos
        rcases hitem with ⟨lv, rfl⟩ | rfl
        · exact sample_completes hrst hrsp hport hinv heos hs hin
        · exact endMark_completes hrst hrsp hport heos hs hin

/-! ### A direct call (R83) -/

section DirectCall
variable {f : Format} {w : Nat} {s : State}

theorem directCall_absent (args : Args) (hport : s.portLevel = .levelB ∧ f = .rsp) :
    directCall f w args s = .done (.refused .portAbsent) :=
  if_pos hport

theorem directCall_ok {i : Instr} (args : Args) (hport : ¬ (s.portLevel = .levelB ∧ f = .rsp))
    (hdecode : decode f w = .ok i) : directCall f w args s = .run i { s with args := args } := by
  rw [directCall, if_neg hport, hdecode]

theorem directCall_error {e : DecodeError} (args : Args) (hport : ¬ (s.portLevel = .levelB ∧ f = .rsp))
    (hdecode : decode f w = .error e) : directCall f w args s = .done (.refused .undecodable) := by
  rw [directCall, if_neg hport, hdecode]

end DirectCall

/-- Settles O6: the word decodes to the operation that runs. -/
theorem stepRunsCalledOperation : Obligations.StepRunsCalledOperation := by
  unfold Obligations.StepRunsCalledOperation
  intro s f w args rest i hrst hrsp hin hport hdecode
  have hhere : ¬ (s.portLevel = .levelB ∧ f = .rsp) := by
    rintro ⟨hlevel, hf⟩
    rcases hport with hA | hne
    · rw [hA] at hlevel; cases hlevel
    · exact hne hf
  have hf : fetch s = .run i { s with inputs := rest, args := args } :=
    (fetch_of_no_response hrst hrsp hin).trans (directCall_ok (s := { s with inputs := rest }) args hhere hdecode)
  rw [step_of_run hf]
  refine ⟨fun u hu => ?_, fun e he => ?_, fun e he => ?_⟩
  · rw [hu, issueWait_next]
  · rw [he]; rfl
  · rw [he]; rfl

/-! ### Reset (R171, R185, R187, R188) -/

theorem fetch_release {s : State} {m : BitVec 13} {n d : Nat} {rest : List Input} (hrst : s.rst = true)
    (hin : s.inputs = .rstRelease m n d :: rest) :
    fetch s = .run (if m = 0 then .rstCfgerr else .rstOk)
      { s with inputs := rest, chMask := m, perNum := n, perDen := d } := by
  simp only [fetch, hrst, if_true, fetchInReset, hin, releaseOp_eq, cfgOk]
  by_cases hm : m = 0 <;> simp [hm]

/-- Settles O7: the 1-bit key is 0 for an empty mask alone. -/
theorem stepRunsResetRelease : Obligations.StepRunsResetRelease := by
  unfold Obligations.StepRunsResetRelease
  rintro s m n d rest i hrst hin rfl
  have hf := fetch_release hrst hin
  exact ⟨fun u hu => step_of_exec hf hu, fun e he => by rw [step_of_run hf, he]; rfl⟩

/-- Settles O8: in reset only the two items of the reset line are looked at. -/
theorem resetHoldsEverything : Obligations.ResetHoldsEverything := by
  unfold Obligations.ResetHoldsEverything
  intro s hrst hrelease hassert
  refine step_of_done ?_
  rw [fetch, if_pos hrst, fetchInReset]
  split
  case h_1 m n d rest hin => exact absurd hin (hrelease m n d rest)
  case h_2 rest hin => exact absurd hin (hassert rest)
  case h_3 => rfl

/-- Settles O9: fetching looks at the reset line before it looks at a response. -/
theorem resetAssertedFirst : Obligations.ResetAssertedFirst := by
  unfold Obligations.ResetAssertedFirst
  intro s rest hrst hin
  refine step_of_done ?_
  simp only [fetch, hrst, hin, Bool.false_eq_true, if_false, assertReset]

/-- Settles O10: in reset and out of it there is nothing to take and nothing to select by. -/
theorem suspendedWaitKeepsState : Obligations.SuspendedWaitKeepsState := by
  unfold Obligations.SuspendedWaitKeepsState
  intro s hrsp hin
  refine step_of_done ?_
  cases hrst : s.rst with
  | true => simp only [fetch, hrst, if_true, fetchInReset, hin]
  | false => simp only [fetch, hrst, Bool.false_eq_true, if_false, hin, selectOp, hrsp]

/-! ### The request rows (R25, R64) -/

theorem issueRequest_of_eq {s : State} {c : BitVec 2} (h : s.request = c) :
    issueRequest c s = .next { s with reqSel := c } := if_pos h

/-- In the three states after the hand-over the request follows the chip select (R25). -/
theorem request_of_tracking {s : State} (hrst : s.rst = false)
    (hs : s.state = .verifyStart ∨ s.state = .findNextStartClk ∨ s.state = .readData) :
    (s.track = .cs1 → s.request = 2) ∧ (s.track = .cs2 → s.request = 3) := by
  constructor
  · intro htrack
    rcases hs with hs | hs | hs <;> simp [State.request, reqOf, hrst, hs, htrack]
  · intro htrack
    rcases hs with hs | hs | hs <;> simp [State.request, reqOf, hrst, hs, htrack]

/-- Settles O45: each row issues the request of its states. -/
theorem requestRowsDrivePort : Obligations.RequestRowsDrivePort := by
  unfold Obligations.RequestRowsDrivePort
  intro s
  refine ⟨fun hnone => issueRequest_of_eq ?_, fun hrst => ⟨fun hs => issueRequest_of_eq ?_, fun hs => ?_⟩⟩
  · rcases hnone with hrst | hs
    · exact if_pos hrst
    · exact request_of_halted hs
  · simp [State.request, reqOf, hrst, hs]
  · obtain ⟨h1, h2⟩ := request_of_tracking hrst hs
    exact ⟨fun htrack => issueRequest_of_eq (h1 htrack), fun htrack => issueRequest_of_eq (h2 htrack)⟩

end Sys2Proof.Machine.OneStep

namespace Sys2Proof.Machine.PatternTest

/-! R62, R63, R136, R142, R143: a pattern is its predicates, channel by channel; each pattern that CORE issues asks for a
predicate on two channels. -/

theorem matchPattern_iff (p : Pattern) (prevValid : Bool) (prev lv : Levels) : matchPattern p prevValid prev lv = true ↔
    ∀ k < 13, predicateHolds (patCode p k) prevValid (prev.getLsbD k) (lv.getLsbD k) = true := by
  simp only [matchPattern, nChannels, List.all_eq_true, List.mem_range]

/-! ### The four patterns that CORE issues (R63) -/

/-- A pattern that asks for code `ca` on channel `a` and code `cb` on channel `b` alone. -/
def AsksTwo (p : Pattern) (a ca b cb : Nat) : Prop :=
  ∀ k < 13, patCode p k = if k = a then ca else if k = b then cb else 0

theorem matchPattern_of_asksTwo {p : Pattern} {a ca b cb : Nat} (hp : AsksTwo p a ca b cb) (ha : a < 13) (hb : b < 13)
    (hab : b ≠ a) (prevValid : Bool) (prev lv : Levels) : matchPattern p prevValid prev lv = true ↔
      predicateHolds ca prevValid (prev.getLsbD a) (lv.getLsbD a) = true ∧
        predicateHolds cb prevValid (prev.getLsbD b) (lv.getLsbD b) = true := by
  rw [matchPattern_iff]
  constructor
  · intro h
    have hpa := h a ha
    have hpb := h b hb
    rw [hp a ha, if_pos rfl] at hpa
    rw [hp b hb, if_neg hab, if_pos rfl] at hpb
    exact ⟨hpa, hpb⟩
  · rintro ⟨hpa, hpb⟩ k hk
    rw [hp k hk]
    split_ifs with hka hkb
    · rwa [hka]
    · rwa [hkb]
    · rfl

section Patterns
variable (prevValid : Bool) (prev lv : Levels)

/-- Alternative 0 of PS_START: cs1 rises and cs2 falls. -/
theorem matches_start0 : matchPattern 0x23 prevValid prev lv = true ↔ prevValid = true ∧
    prev.getLsbD 0 = false ∧ lv.getLsbD 0 = true ∧ prev.getLsbD 1 = true ∧ lv.getLsbD 1 = false := by
  have hp : AsksTwo 0x23 0 3 1 4 := by unfold AsksTwo; decide
  rw [matchPattern_of_asksTwo hp (by decide) (by decide) (by decide)]
  simp only [predicateHolds, Bool.and_eq_true, Bool.not_eq_true']
  tauto

/-- Alternative 1 of PS_START: cs1 falls and cs2 rises. -/
theorem matches_start1 : matchPattern 0x1C prevValid prev lv = true ↔ prevValid = true ∧
    prev.getLsbD 0 = true ∧ lv.getLsbD 0 = false ∧ prev.getLsbD 1 = false ∧ lv.getLsbD 1 = true := by
  have hp : AsksTwo 0x1C 0 4 1 3 := by unfold AsksTwo; decide
  rw [matchPattern_of_asksTwo hp (by decide) (by decide) (by decide)]
  simp only [predicateHolds, Bool.and_eq_true, Bool.not_eq_true']
  tauto

/-- PS_CLK1: cs1 is low and clk rises. -/
theorem matches_clk1 : matchPattern 0xC1 prevValid prev lv = true ↔
    prevValid = true ∧ lv.getLsbD 0 = false ∧ prev.getLsbD 2 = false ∧ lv.getLsbD 2 = true := by
  have hp : AsksTwo 0xC1 0 1 2 3 := by unfold AsksTwo; decide
  rw [matchPattern_of_asksTwo hp (by decide) (by decide) (by decide)]
  simp only [predicateHolds, Bool.and_eq_true, Bool.not_eq_true']
  tauto

/-- PS_CLK2: cs2 is low and clk rises. -/
theorem matches_clk2 : matchPattern 0xC8 prevValid prev lv = true ↔
    prevValid = true ∧ lv.getLsbD 1 = false ∧ prev.getLsbD 2 = false ∧ lv.getLsbD 2 = true := by
  have hp : AsksTwo 0xC8 1 1 2 3 := by unfold AsksTwo; decide
  rw [matchPattern_of_asksTwo hp (by decide) (by decide) (by decide)]
  simp only [predicateHolds, Bool.and_eq_true, Bool.not_eq_true']
  tauto

theorem firstMatch_single (p : Pattern) :
    firstMatch [p] prevValid prev lv = some 0 ↔ matchPattern p prevValid prev lv = true := by
  simp [firstMatch, List.findIdx?_cons]

theorem firstMatch_pair_zero (p q : Pattern) :
    firstMatch [p, q] prevValid prev lv = some 0 ↔ matchPattern p prevValid prev lv = true := by
  simp [firstMatch, List.findIdx?_cons]

theorem firstMatch_pair_one (p q : Pattern) : firstMatch [p, q] prevValid prev lv = some 1 ↔
    matchPattern p prevValid prev lv = false ∧ matchPattern q prevValid prev lv = true := by
  cases hp : matchPattern p prevValid prev lv <;> simp [firstMatch, List.findIdx?_cons, hp]

/-- The two hand-overs exclude each other: cs1 cannot both rise and fall. -/
theorem start0_false_of_start1 (h : matchPattern 0x1C prevValid prev lv = true) :
    matchPattern 0x23 prevValid prev lv = false := by
  obtain ⟨-, hbefore, -⟩ := (matches_start1 prevValid prev lv).1 h
  refine Bool.eq_false_iff.2 fun h0 => ?_
  obtain ⟨-, hbefore0, -⟩ := (matches_start0 prevValid prev lv).1 h0
  rw [hbefore] at hbefore0
  cases hbefore0

end Patterns

/-- Settles O49: the sets of R63 pattern by pattern. -/
theorem requestsMatchExactly : Obligations.RequestsMatchExactly := by
  unfold Obligations.RequestsMatchExactly
  intro prevValid prev lv
  simp only [patternSet_one, patternSet_two, patternSet_three, firstMatch_single, firstMatch_pair_zero,
    firstMatch_pair_one]
  refine ⟨matches_start0 .., ?_, matches_clk1 .., matches_clk2 ..⟩
  rw [and_iff_right_of_imp (start0_false_of_start1 prevValid prev lv), matches_start1]

/-! ### A pattern called directly (R62, R142) -/

/-- What each legal predicate code asks of a channel. -/
theorem predicateHolds_iff {code : Nat} (hcode : code ≤ 4) (prevValid before now : Bool) :
    predicateHolds code prevValid before now = true ↔
      (code = 1 → now = false) ∧ (code = 2 → now = true) ∧
      (code = 3 → prevValid = true ∧ before = false ∧ now = true) ∧
      (code = 4 → prevValid = true ∧ before = true ∧ now = false) := by
  interval_cases code <;> simp [predicateHolds, and_assoc]

theorem patLegal_iff (p : Pattern) : patLegal p = true ↔ ∀ k < 13, patCode p k ≤ 4 := by
  simp only [patLegal, nChannels, List.all_eq_true, List.mem_range, decide_eq_true_eq]

theorem exec_matchPattern_of_legal {s : State} (h : patLegal s.args.pat = true) : exec .matchPattern s =
    .next { s with ret := .verdict (matchPattern s.args.pat s.prevValid s.prev s.args.lv) } :=
  if_pos h

/-- Settles O53: the verdict is `matchPattern`, one predicate for each channel. -/
theorem patternTestExact : Obligations.PatternTestExact := by
  unfold Obligations.PatternTestExact
  intro s hlegal
  refine ⟨_, exec_matchPattern_of_legal ((patLegal_iff s.args.pat).2 hlegal), ?_⟩
  rw [matchPattern_iff]
  exact forall₂_congr fun k hk => predicateHolds_iff (hlegal k hk) s.prevValid (s.prev.getLsbD k) (s.args.lv.getLsbD k)

end Sys2Proof.Machine.PatternTest

namespace Sys2Proof.Machine.ResetRelease

/-! R150, R187, R188: the two operations of a reset release, by what the latched configuration holds. -/

theorem cfgOk_of_complete {m : BitVec 13} (h : m &&& 0x1FE7 = 0x1FE7) : cfgOk m = true := by
  refine decide_eq_true ?_
  rintro rfl
  exact absurd h (by decide)

theorem channelsComplete_iff (m : BitVec 13) : channelsComplete m = true ↔ m &&& 0x1FE7 = 0x1FE7 := decide_eq_true_iff

theorem exec_rstOk {s : State} (hrst : s.rst = true) (hmask : s.chMask &&& 0x1FE7 = 0x1FE7) (hnum : 0 < s.perNum)
    (hden : 0 < s.perDen) : exec .rstOk s = .next (resetRegisters s) := by
  simp [exec, execRstOk, hrst, cfgOk_of_complete hmask, (channelsComplete_iff _).2 hmask, hnum.ne', hden.ne']

theorem exec_rstOk_partial {s : State} (hrst : s.rst = true) (hne : s.chMask ≠ 0)
    (hmask : s.chMask &&& 0x1FE7 ≠ 0x1FE7) : exec .rstOk s = .refused .partialChannelMask := by
  have hok : cfgOk s.chMask = true := decide_eq_true hne
  have hcomplete : channelsComplete s.chMask = false := decide_eq_false hmask
  simp [exec, execRstOk, hrst, hok, hcomplete]

theorem exec_rstOk_badPeriod {s : State} (hrst : s.rst = true) (hmask : s.chMask &&& 0x1FE7 = 0x1FE7)
    (hperiod : s.perNum = 0 ∨ s.perDen = 0) : exec .rstOk s = .refused .badPeriod := by
  simp [exec, execRstOk, hrst, cfgOk_of_complete hmask, (channelsComplete_iff _).2 hmask, hperiod]

theorem exec_rstCfgerr {s : State} (hrst : s.rst = true) (hmask : s.chMask = 0) :
    exec .rstCfgerr s = .next { resetRegisters s with status := 1, cmd := [], pay := [], state := .halted } := by
  simp [exec, execRstCfgerr, hrst, cfgOk, hmask]

/-- Settles O31: the free values stand in the registers that the statement leaves open. -/
theorem resetReleaseStarts : Obligations.ResetReleaseStarts := by
  unfold Obligations.ResetReleaseStarts
  intro s hrst hmask hnum hden
  exact ⟨_, _, _, _, _, exec_rstOk hrst hmask hnum hden⟩

/-- Settles O32: the reset values, then ChannelConfigurationError. -/
theorem resetReleaseConfigError : Obligations.ResetReleaseConfigError := by
  unfold Obligations.ResetReleaseConfigError
  intro s hrst hmask
  exact ⟨_, _, _, _, _, exec_rstCfgerr hrst hmask⟩

/-- Settles O33: the two guards of RST.OK, the mask before the period. -/
theorem resetRefusesUnusableConfig : Obligations.ResetRefusesUnusableConfig := by
  unfold Obligations.ResetRefusesUnusableConfig
  exact fun s hrst hne => ⟨exec_rstOk_partial hrst hne, exec_rstOk_badPeriod hrst⟩

end Sys2Proof.Machine.ResetRelease

namespace Sys2Proof.Machine.Drawing

open FrameRenderer (bitAt lastBitAt lastBitAt_isSome pixel_replay)
open FramingFsm (exec_rdFin)
open StepEffects (emitAll_nil)

/-! R43, R47, R49, R52, R120 to R130: what the drawing operations emit and what the cells then show. The events of a payload
are listed twice: by their place in the order (R52), and as the writes of its cells, each cell written once (R49). -/

/-! ### The order of the events (R52, R130) -/

theorem length_columnEvents (page : BitVec 3) (off i : Nat) (v : Byte) : (columnEvents page off i v).length = 8 := by
  simp [columnEvents, bandH]

theorem length_payloadEvents (page : BitVec 3) (off i : Nat) (pay : List Byte) :
    (payloadEvents page off i pay).length = 8 * pay.length := by
  induction pay generalizing i with
  | nil => rfl
  | cons v rest ih =>
    rw [payloadEvents, List.length_append, length_columnEvents, ih, List.length_cons]
    omega

/-- The write of byte `v`, number `i` of the payload, at row `r` of the band. -/
def cellEvent (page : BitVec 3) (off i r : Nat) (v : Byte) : Event :=
  .setPixel (BitVec.ofNat 9 (i + off)) (BitVec.ofNat 6 (8 * page.toNat + r)) (v.getLsbD (7 - r))

theorem columnEvents_eq (page : BitVec 3) (off i : Nat) (v : Byte) :
    columnEvents page off i v = (List.range 8).map fun r => cellEvent page off i r v := rfl

theorem getElem?_columnEvents (page : BitVec 3) (off i : Nat) (v : Byte) {r : Nat} (hr : r < 8) :
    (columnEvents page off i v)[r]? = some (cellEvent page off i r v) := by
  rw [columnEvents_eq, List.getElem?_map, List.getElem?_range hr, Option.map_some]

/-- Number `8 j + r` of a payload's events is byte `j` at row `r`. -/
theorem getElem?_payloadEvents (page : BitVec 3) (off i : Nat) {pay : List Byte} {j r : Nat} (hj : j < pay.length)
    (hr : r < 8) : (payloadEvents page off i pay)[8 * j + r]? = some (cellEvent page off (i + j) r (pay.getD j 0)) := by
  induction pay generalizing i j with
  | nil => cases hj
  | cons v rest ih =>
    have hlen := length_columnEvents page off i v
    rw [payloadEvents]
    cases j with
    | zero =>
      rw [List.getElem?_append_left (by omega), Nat.mul_zero, Nat.zero_add, getElem?_columnEvents page off i v hr]
      rfl
    | succ j =>
      have hplace : 8 * (j + 1) + r - 8 = 8 * j + r := by omega
      rw [List.getElem?_append_right (by omega), hlen, hplace, ih (i + 1) (Nat.lt_of_succ_lt_succ hj),
        Nat.succ_add_eq_add_succ]
      rfl

theorem deviceOf_eq (sel : Bool) : deviceOf sel = if sel then .secondary else .primary := by cases sel <;> rfl

theorem renderEvents_eq (page : BitVec 3) (sel : Bool) (pay : List Byte) : renderEvents page sel pay =
    payloadEvents page (if sel then 132 else 0) 0 pay ++
      [.present, .record page (if sel then .secondary else .primary) pay] := by
  rw [renderEvents, columnOffset_deviceOf, deviceOf_eq, List.append_assoc]
  rfl

/-- Settles O37: the payload's events by their place, then the two at the end. -/
theorem renderEventOrder : Obligations.RenderEventOrder := by
  unfold Obligations.RenderEventOrder
  intro page sel pay hpay
  have hlen : (payloadEvents page (if sel then 132 else 0) 0 pay).length = 1056 := by
    rw [length_payloadEvents, hpay]
  rw [renderEvents_eq]
  refine ⟨?_, fun i r hi hr => ?_, ?_, ?_⟩
  · rw [List.length_append, hlen]; rfl
  · rw [List.getElem?_append_left (by omega), getElem?_payloadEvents page _ 0 (by omega) hr, Nat.zero_add]
    rfl
  · rw [List.getElem?_append_right (by omega), hlen]; rfl
  · rw [List.getElem?_append_right (by omega), hlen]; rfl

/-! ### The cells that a payload writes (R47, R49) -/

theorem mem_columnEvents {page : BitVec 3} {off i : Nat} {v : Byte} {e : Event} :
    e ∈ columnEvents page off i v ↔ ∃ r < 8, e = cellEvent page off i r v := by
  simp only [columnEvents_eq, List.mem_map, List.mem_range, eq_comm]

theorem mem_payloadEvents {page : BitVec 3} {off i : Nat} {pay : List Byte} {e : Event} :
    e ∈ payloadEvents page off i pay ↔
      ∃ j < pay.length, ∃ r < 8, e = cellEvent page off (i + j) r (pay.getD j 0) := by
  induction pay generalizing i with
  | nil => simp [payloadEvents]
  | cons v rest ih =>
    rw [payloadEvents, List.mem_append, mem_columnEvents, ih]
    constructor
    · rintro (⟨r, hr, rfl⟩ | ⟨j, hj, r, hr, rfl⟩)
      · exact ⟨0, Nat.succ_pos _, r, hr, rfl⟩
      · exact ⟨j + 1, Nat.succ_lt_succ hj, r, hr, by rw [Nat.succ_add_eq_add_succ]; rfl⟩
    · rintro ⟨j, hj, r, hr, rfl⟩
      cases j with
      | zero => exact .inl ⟨r, hr, rfl⟩
      | succ j => exact .inr ⟨j, Nat.lt_of_succ_lt_succ hj, r, hr, by rw [Nat.succ_add_eq_add_succ]; rfl⟩

/-- The one cell that an event writes. -/
theorem bitAt_cellEvent {page : BitVec 3} {off i r x y : Nat} (v : Byte) (hi : i + off < 512) (hr : r < 8) :
    bitAt (cellEvent page off i r v) x y =
      if x = i + off ∧ y = 8 * page.toNat + r then some (v.getLsbD (7 - r)) else none := by
  have hpage := page.isLt
  rw [cellEvent, bitAt, BitVec.toNat_ofNat, BitVec.toNat_ofNat, Nat.mod_eq_of_lt hi, Nat.mod_eq_of_lt (by omega)]

/-- A cell that no event writes keeps its content. -/
theorem lastBitAt_eq_none {evs : List Event} {x y : Nat} (h : ∀ e ∈ evs, bitAt e x y = none) :
    lastBitAt evs x y = none := by
  induction evs with
  | nil => rfl
  | cons e rest ih =>
    obtain ⟨he, hrest⟩ := List.forall_mem_cons.1 h
    rw [lastBitAt, ih hrest, he]
    rfl

/-- A bit that is left in a cell was written by one of the events. -/
theorem exists_of_lastBitAt {evs : List Event} {x y : Nat} {b : Bool} (h : lastBitAt evs x y = some b) :
    ∃ e ∈ evs, bitAt e x y = some b := by
  induction evs with
  | nil => cases h
  | cons e rest ih =>
    rw [lastBitAt] at h
    cases hlast : lastBitAt rest x y with
    | some c =>
      rw [hlast] at h
      obtain ⟨d, hd, hbit⟩ := ih (hlast.trans h)
      exact ⟨d, List.mem_cons_of_mem e hd, hbit⟩
    | none =>
      rw [hlast] at h
      exact ⟨e, List.mem_cons_self, h⟩

/-- Events that write a cell only with `b`, and do write it, leave `b` in it. -/
theorem lastBitAt_eq_some {evs : List Event} {x y : Nat} {b : Bool} (hwritten : ∃ e ∈ evs, bitAt e x y = some b)
    (honly : ∀ e ∈ evs, ∀ c, bitAt e x y = some c → c = b) : lastBitAt evs x y = some b := by
  obtain ⟨e, he, hbit⟩ := hwritten
  obtain ⟨c, hc⟩ := Option.isSome_iff_exists.1 (lastBitAt_isSome he (by rw [hbit]; rfl))
  obtain ⟨d, hd, hbit'⟩ := exists_of_lastBitAt hc
  rw [hc, honly d hd c hbit']

section Payload
variable (page : BitVec 3) {off i : Nat} {pay : List Byte} (hfits : i + pay.length + off ≤ 264)
include hfits

/-- Byte `j` of a payload is its column `i + j`, bit `7 - r` at row `r` of the band. -/
theorem lastBitAt_payloadEvents_inside {j r : Nat} (hj : j < pay.length) (hr : r < 8) :
    lastBitAt (payloadEvents page off i pay) (i + j + off) (8 * page.toNat + r) =
      some ((pay.getD j 0).getLsbD (7 - r)) := by
  refine lastBitAt_eq_some ⟨_, mem_payloadEvents.2 ⟨j, hj, r, hr, rfl⟩, ?_⟩ fun e he c hc => ?_
  · rw [bitAt_cellEvent _ (by omega) hr, if_pos ⟨rfl, rfl⟩]
  · obtain ⟨j', hj', r', hr', rfl⟩ := mem_payloadEvents.1 he
    rw [bitAt_cellEvent _ (by omega) hr'] at hc
    split at hc
    case isTrue hcell =>
      obtain ⟨hx, hy⟩ := hcell
      obtain rfl : j' = j := by omega
      obtain rfl : r' = r := by omega
      exact (Option.some.inj hc).symm
    case isFalse => cases hc

theorem lastBitAt_payloadEvents_outside {x y : Nat} (hout : ¬ (i + off ≤ x ∧ x < i + off + pay.length ∧
    8 * page.toNat ≤ y ∧ y < 8 * page.toNat + 8)) : lastBitAt (payloadEvents page off i pay) x y = none := by
  refine lastBitAt_eq_none fun e he => ?_
  obtain ⟨j, hj, r, hr, rfl⟩ := mem_payloadEvents.1 he
  rw [bitAt_cellEvent _ (by omega) hr, if_neg]
  rintro ⟨rfl, rfl⟩
  exact hout (by omega)

/-- What the cells of the payload's columns show after it is drawn. -/
theorem pixel_payload_inside {g : Memory} (hwf : Memory.wf g = true) {j r : Nat} (hj : j < pay.length) (hr : r < 8) :
    pixel (replay g (payloadEvents page off i pay)) (i + j + off) (8 * page.toNat + r) =
      (pay.getD j 0).getLsbD (7 - r) := by
  have hpage := page.isLt
  rw [pixel_replay hwf (payloadEvents_inGrid hfits) (by omega), lastBitAt_payloadEvents_inside page hfits hj hr,
    Option.getD_some]

/-- Every other cell shows what it showed. -/
theorem pixel_payload_outside {g : Memory} (hwf : Memory.wf g = true) {x y : Nat} (hy : y < 64)
    (hout : ¬ (i + off ≤ x ∧ x < i + off + pay.length ∧ 8 * page.toNat ≤ y ∧ y < 8 * page.toNat + 8)) :
    pixel (replay g (payloadEvents page off i pay)) x y = pixel g x y := by
  rw [pixel_replay hwf (payloadEvents_inGrid hfits) hy, lastBitAt_payloadEvents_outside page hfits hout,
    Option.getD_none]

end Payload

/-! ### A whole frame (R110, R124) -/

/-- PRESENT and RECORD write no cell. -/
theorem replay_renderEvents (g : Memory) (page : BitVec 3) (sel : Bool) (pay : List Byte) :
    replay g (renderEvents page sel pay) = replay g (payloadEvents page (if sel then 132 else 0) 0 pay) := by
  rw [renderEvents_eq, replay_append]
  rfl

/-- The DeviceSelector decides the half as the levels of the last Sample do (R46, R115). -/
theorem columnOffset_selector (lv : Levels) : (if selector lv then 132 else 0) =
    if lv.getLsbD 1 = false ∧ lv.getLsbD 0 = true then 132 else 0 := by
  simp [selector_eq]

/-- Settles O24: the frame's cells are those that the payload's events write, each once. -/
theorem fullFramePixels : Obligations.FullFramePixels := by
  unfold Obligations.FullFramePixels
  intro s alt idx lv page hs hr hlast hcode hwf
  have hlen : (s.pay ++ [pack lv]).length = 132 := by rw [List.length_append, hlast, List.length_singleton]
  refine ⟨_, exec_rdFin hs hr hlast (pageOf_of_legal hcode), ?_⟩
  rw [← columnOffset_selector, ← pack_eq, replay_renderEvents]
  have hoff : (if selector lv then 132 else 0) ≤ 132 := by split <;> decide
  generalize (if selector lv then 132 else 0) = off at hoff
  have hfits : 0 + (s.pay ++ [pack lv]).length + off ≤ 264 := by omega
  refine ⟨fun i r hi hr' => ?_, fun x y hx hy hout => ?_⟩
  · have hcell := pixel_payload_inside page hfits hwf (hi.trans_eq hlen.symm) hr'
    rwa [Nat.zero_add] at hcell
  · refine pixel_payload_outside page hfits hwf hy ?_
    rwa [hlen, Nat.zero_add]

/-! ### One column and one cell (R43, R123) -/

/-- `s` with `k` as the byte index that COL draws next. -/
def atColumn (k : Nat) (s : State) : State := { s with args := { s.args with colIdx := k } }

theorem exec_col_of_legal {s : State} {v : Byte} {page : BitVec 3} (hcode : s.args.cmd.b0.toNat = 176 + page.toNat)
    (hcol : s.args.colIdx < 132) : exec (.col v) s =
      .next (emitAll (columnEvents page (if s.args.sel then 132 else 0) s.args.colIdx v)
        (atColumn (s.args.colIdx + 1) s)) := by
  simp only [exec, execCol, pageOf_of_legal hcode, frameLen, if_pos hcol, columnOffset_deviceOf, atColumn]

theorem exec_col_outside {s : State} {v : Byte} {page : BitVec 3} (hcode : s.args.cmd.b0.toNat = 176 + page.toNat)
    (hcol : 132 ≤ s.args.colIdx) : exec (.col v) s = .fault .columnOutsideFrame := by
  have hout : ¬ s.args.colIdx < frameLen := Nat.not_lt_of_le hcol
  simp only [exec, execCol, pageOf_of_legal hcode, if_neg hout]

theorem exec_col_of_illegal {s : State} {v : Byte} (hcode : s.args.cmd.b0.toNat < 176 ∨ 183 < s.args.cmd.b0.toNat) :
    exec (.col v) s = .next (reportUnknownPage s.args.cmd.b0 s) := by
  simp only [exec, execCol, pageOf_of_illegal hcode]

/-- One column is a payload of one byte. -/
theorem columnEvents_eq_payloadEvents (page : BitVec 3) (off i : Nat) (v : Byte) :
    columnEvents page off i v = payloadEvents page off i [v] := (List.append_nil _).symm

theorem pixel_column {g : Memory} (hwf : Memory.wf g = true) (page : BitVec 3) {off i : Nat} (v : Byte)
    (hfits : i + off < 264) {x y : Nat} (hy : y < 64) : pixel (replay g (columnEvents page off i v)) x y =
      if x = i + off ∧ 8 * page.toNat ≤ y ∧ y < 8 * page.toNat + 8 then v.getLsbD (7 - (y - 8 * page.toNat))
      else pixel g x y := by
  have hone : i + [v].length + off ≤ 264 := by rw [List.length_singleton]; omega
  rw [columnEvents_eq_payloadEvents]
  split
  case isTrue hin =>
    obtain ⟨rfl, hlo, hhi⟩ := hin
    have hcell := pixel_payload_inside page hone hwf (j := 0) (r := y - 8 * page.toNat) Nat.one_pos (by omega)
    rwa [Nat.add_sub_cancel' hlo] at hcell
  case isFalse hout =>
    refine pixel_payload_outside page hone hwf hy fun hin => hout ?_
    rw [List.length_singleton] at hin
    omega

/-- Settles O35: COL emits the events of one column. -/
theorem columnDrawn : Obligations.ColumnDrawn := by
  unfold Obligations.ColumnDrawn
  intro s v hwf
  refine ⟨fun page hcode => ⟨exec_col_outside hcode, fun hcol => ⟨_, exec_col_of_legal hcode hcol, ?_⟩⟩,
    exec_col_of_illegal⟩
  intro x y hx hy
  exact pixel_column hwf page v (by split <;> omega) hy

/-- Settles O40: the address of a cell is its own. -/
theorem setPixelWritesOneCell : Obligations.SetPixelWritesOneCell := by
  unfold Obligations.SetPixelWritesOneCell
  intro s x y on hwf
  refine ⟨fun hx => if_neg (Nat.not_lt_of_le hx), fun hx => ⟨pixWrite s.grid x.toNat y.toNat on, if_pos hx, ?_⟩⟩
  exact ⟨pixWrite_wf on hwf hx y.isLt, fun x' y' _ hy' => pixel_pixWrite on hwf y.isLt hy'⟩

/-! ### The renderer's rows called directly (R71, R120, R121, R126, R128, R129, R168) -/

theorem exec_render_of_legal {s : State} {page : BitVec 3} (hcode : s.args.cmd.b0.toNat = 176 + page.toNat) :
    exec .render s = .next (emitAll (renderEvents page s.args.sel s.args.pay.toList) s) := by
  simp only [exec, execRender, renderFrame, pageOf_of_legal hcode]

theorem exec_render_of_illegal {s : State} (hcode : s.args.cmd.b0.toNat < 176 ∨ 183 < s.args.cmd.b0.toNat) :
    exec .render s = .next (reportUnknownPage s.args.cmd.b0 s) := by
  simp only [exec, execRender, renderFrame, pageOf_of_illegal hcode]

/-- Settles O36: the two outcomes of decoding the page. -/
theorem renderCalledDirectly : Obligations.RenderCalledDirectly := by
  unfold Obligations.RenderCalledDirectly
  exact fun s => ⟨fun page => exec_render_of_legal, exec_render_of_illegal⟩

/-- Settles O56: the two outcomes of decoding the page, returned. -/
theorem pageDecodeExact : Obligations.PageDecodeExact := by
  unfold Obligations.PageDecodeExact
  intro s
  refine ⟨fun page hcode => ?_, fun hcode => ?_⟩
  · simp only [exec, execPageDecode, pageOf_of_legal hcode]
  · simp only [exec, execPageDecode, pageOf_of_illegal hcode]

/-- The page code of page `p` (R45). -/
theorem pageCode_eq : ∀ p : BitVec 3, 0b10110#5 ++ p = BitVec.ofNat 8 (176 + p.toNat) := by decide

theorem pageCode_toNat : ∀ p : BitVec 3, (0b10110#5 ++ p).toNat = 176 + p.toNat := by decide

/-- Settles O34: the five fixed bits of the word are those of 176. -/
theorem setpageSelectsPage : Obligations.SetpageSelectsPage := by
  unfold Obligations.SetpageSelectsPage
  intro s p c a
  rw [← pageCode_eq]
  rfl

/-- Settles O41: the three events are emitted, and `ERROR` is emitted for code 3 alone. -/
theorem otherEventsLeaveCore : Obligations.OtherEventsLeaveCore := by
  unfold Obligations.OtherEventsLeaveCore
  refine fun s page device info => ⟨rfl, rfl, rfl, fun code hne hused => ?_, fun code hunused => ?_⟩
  · exact (if_neg hne).trans (if_pos hused)
  · have hne : code ≠ ErrorKind.code .unknownPageCode := by rintro rfl; exact absurd hunused (by decide)
    exact (if_neg hne).trans (if_neg (Nat.not_le_of_lt hunused))

/-! ### RENDER as its rows run one by one (R120, R123) -/

theorem runAll_cons {i : Instr} {is : List Instr} {s t : State} (h : exec i s = .next t) :
    runAll (i :: is) s = runAll is t := by
  simp only [runAll, h]

theorem emitAll_emitAll (a b : List Event) (s : State) : emitAll b (emitAll a s) = emitAll (a ++ b) s := by
  simp only [emitAll, List.foldl_append, List.append_assoc]

/-- Running COL for each byte in order emits the events of the payload. -/
theorem runAll_cols {page : BitVec 3} (pay : List Byte) (is : List Instr) {s : State}
    (hcode : s.args.cmd.b0.toNat = 176 + page.toNat) (hfits : s.args.colIdx + pay.length ≤ 132) :
    runAll (pay.map .col ++ is) s =
      runAll is (emitAll (payloadEvents page (if s.args.sel then 132 else 0) s.args.colIdx pay)
        (atColumn (s.args.colIdx + pay.length) s)) := by
  induction pay generalizing s with
  | nil => exact congrArg (runAll is) (emitAll_nil s).symm
  | cons v rest ih =>
    rw [List.length_cons, ← Nat.succ_add_eq_add_succ] at hfits ⊢
    have hcol := exec_col_of_legal (v := v) hcode (by omega)
    rw [List.map_cons, List.cons_append, runAll_cons hcol, payloadEvents, ← emitAll_emitAll]
    exact ih (s := emitAll _ (atColumn (s.args.colIdx + 1) s)) hcode hfits

/-- `s` after SETPAGE: the page code and the two bytes are the renderer's Command, and the next column is the first. -/
def afterSetpage (page : BitVec 3) (c a : Byte) (s : State) : State :=
  { s with args := { s.args with cmd := ⟨0b10110#5 ++ page, c, a⟩, colIdx := 0 }, ret := .page page }

/-- The rows one by one emit the events of the render. -/
theorem runAll_renderRows (s : State) (page : BitVec 3) (c a : Byte) :
    runAll (.setpage page c a :: s.args.pay.toList.map .col ++
      [.present, .record page (if s.args.sel then .secondary else .primary)]) s =
      .next (emitAll (renderEvents page s.args.sel s.args.pay.toList)
        (atColumn (0 + s.args.pay.toList.length) (afterSetpage page c a s))) := by
  have hsetpage : exec (.setpage page c a) s = .next (afterSetpage page c a s) := rfl
  have hfits : 0 + s.args.pay.toList.length ≤ 132 := by rw [Vector.length_toList]
  rw [List.cons_append, runAll_cons hsetpage, renderEvents_eq, ← emitAll_emitAll]
  refine (runAll_cols (s := afterSetpage page c a s) _ _ (pageCode_toNat page) hfits).trans ?_
  exact congrArg Host.Outcome.next
    (emitAll_emitAll [.present] [.record page (if s.args.sel then .secondary else .primary) s.args.pay.toList] _)

/-- Settles O39: SETPAGE and COL change neither grid nor events but by the events that they emit. -/
theorem renderIsItsSteps : Obligations.RenderIsItsSteps := by
  unfold Obligations.RenderIsItsSteps
  exact fun s page c a hcode => ⟨_, _, exec_render_of_legal hcode, runAll_renderRows s page c a, rfl, rfl⟩

end Sys2Proof.Machine.Drawing

namespace Sys2Proof.Machine.CommandTail

open DeadRegisters (seenThrough_next seenThrough_ite)
open RwAndE (fetch_of_item releaseOp_eq)
open FramingFsm (key_bits_endOfStream keyLast_findNextStartClk keyLast_readData)
open OneStep (directCall_absent directCall_error directCall_ok)

/-! R18, R71: the bytes of a Command after the first influence nothing. Blanking them before a part of a step is the same as
blanking them in what it answers (`Drops`), but for the rows that add a byte to `cmd` or write the operands, which are only
blind to them (`Blind`). -/

/-! ### The blanked bytes -/

/-- A Command with the bytes after the first blanked. -/
def blankTail (cmd : List Byte) : List Byte := cmd.take 1 ++ List.replicate (cmd.length - 1) 0

theorem blankTail_cons (b : Byte) (rest : List Byte) : blankTail (b :: rest) = b :: List.replicate rest.length 0 := rfl

theorem length_blankTail (cmd : List Byte) : (blankTail cmd).length = cmd.length := by
  cases cmd with
  | nil => rfl
  | cons b rest => rw [blankTail_cons, List.length_cons, List.length_replicate, List.length_cons]

theorem headD_blankTail (cmd : List Byte) (d : Byte) : (blankTail cmd).headD d = cmd.headD d := by
  cases cmd with
  | nil => rfl
  | cons b rest => rfl

/-- A byte added to a blanked Command, or to the Command itself. -/
theorem blankTail_append (cmd more : List Byte) : blankTail (blankTail cmd ++ more) = blankTail (cmd ++ more) := by
  cases cmd with
  | nil => rfl
  | cons b rest =>
    rw [blankTail_cons, List.cons_append, blankTail_cons, List.cons_append, blankTail_cons, List.length_append,
      List.length_append, List.length_replicate]

theorem blankTail_blankTail (cmd : List Byte) : blankTail (blankTail cmd) = blankTail cmd := by
  simpa only [List.append_nil] using blankTail_append cmd []

/-! ### What the rules read of a state -/

section Fields
variable (s : State)

theorem tailless_eq : tailless s =
    { s with cmd := blankTail s.cmd, args := { s.args with cmd := { s.args.cmd with b1 := 0, b2 := 0 } } } := rfl

@[simp] theorem tailless_tailless : tailless (tailless s) = tailless s := by
  simp only [tailless_eq, blankTail_blankTail]

theorem tailless_args (args : Args) : tailless { tailless s with args := args } = tailless { s with args := args } := by
  simp only [tailless_eq, blankTail_blankTail]

@[simp] theorem tailless_state : (tailless s).state = s.state := rfl
@[simp] theorem tailless_refIdx : (tailless s).refIdx = s.refIdx := rfl
@[simp] theorem tailless_pay : (tailless s).pay = s.pay := rfl
@[simp] theorem tailless_prev : (tailless s).prev = s.prev := rfl
@[simp] theorem tailless_prevValid : (tailless s).prevValid = s.prevValid := rfl
@[simp] theorem tailless_rst : (tailless s).rst = s.rst := rfl
@[simp] theorem tailless_rsp : (tailless s).rsp = s.rsp := rfl
@[simp] theorem tailless_inputs : (tailless s).inputs = s.inputs := rfl
@[simp] theorem tailless_request : (tailless s).request = s.request := rfl
@[simp] theorem tailless_clockInTime (idx : Nat) : (tailless s).clockInTime idx = s.clockInTime idx := rfl
@[simp] theorem tailless_args_b0 : (tailless s).args.cmd.b0 = s.args.cmd.b0 := rfl

@[simp] theorem tailless_cmd_length : (tailless s).cmd.length = s.cmd.length := length_blankTail s.cmd
@[simp] theorem tailless_cmd0 : (tailless s).cmd0 = s.cmd0 := headD_blankTail s.cmd 0

theorem keyLast_tailless (r : Response) : keyLast (tailless s) r = keyLast s r := by
  cases r with
  | matched alt idx lv =>
    cases hs : s.state with
    | findNextStartClk =>
      rw [keyLast_findNextStartClk hs, keyLast_findNextStartClk (s := tailless s) hs, tailless_cmd_length]
    | readData => rw [keyLast_readData hs, keyLast_readData (s := tailless s) hs, tailless_pay]
    | _ => simp only [keyLast, tailless_state, hs]
  | endOfStream =>
    obtain ⟨-, hlast, -⟩ := key_bits_endOfStream s
    obtain ⟨-, hlast', -⟩ := key_bits_endOfStream (tailless s)
    rw [hlast, hlast']

/-- The key counts the bytes of the Command and reads the first (R68). -/
theorem transitionKey_tailless (r : Response) : transitionKey (tailless s) r = transitionKey s r := by
  have hcls : keyCls (tailless s) r = keyCls s r := rfl
  simp only [transitionKey, keyPageok, hcls, keyLast_tailless, tailless_state, tailless_cmd0]

end Fields

/-! ### Outcomes -/

/-- Blanking the bytes before `f` is blanking them in what `f` answers. -/
def Drops (f : State → Res) : Prop := ∀ s, f (tailless s) = seenThrough tailless (f s)

/-- `f` answers the same but for the bytes when they are blanked before. -/
def Blind (f : State → Res) : Prop := ∀ s, seenThrough tailless (f (tailless s)) = seenThrough tailless (f s)

theorem seenThrough_tailless_idem (o : Res) : seenThrough tailless (seenThrough tailless o) = seenThrough tailless o := by
  cases o with
  | next s => exact congrArg Host.Outcome.next (tailless_tailless s)
  | fault e => rfl
  | refused r => rfl

theorem Drops.blind {f : State → Res} (hf : Drops f) : Blind f := fun s => by
  rw [hf s, seenThrough_tailless_idem]

/-- Such an `f` cannot tell apart states that differ only in the bytes. -/
theorem Blind.congr {f : State → Res} (hf : Blind f) {s s' : State} (h : tailless s = tailless s') :
    seenThrough tailless (f s) = seenThrough tailless (f s') := by
  rw [← hf s, h, hf s']

theorem renderFrame_tailless (c : Byte) (pay : List Byte) (sel : Bool) (s : State) :
    renderFrame c pay sel (tailless s) = tailless (renderFrame c pay sel s) := by
  unfold renderFrame
  cases pageOf c with
  | some p => rfl
  | none => rfl

theorem issueRequest_drops (c : BitVec 2) : Drops (issueRequest c) := fun s => by
  simp only [issueRequest, tailless_request, seenThrough_ite]
  rfl

/-! ### The transitions -/

theorem execFsA_drops : Drops execFsA := fun s => by
  simp only [execFsA, tailless_state, tailless_rsp]
  split
  · rw [seenThrough_ite]; rfl
  · rfl

theorem execFsB_drops : Drops execFsB := fun s => by
  simp only [execFsB, tailless_state, tailless_rsp]
  split
  · rw [seenThrough_ite]; rfl
  · rfl

/-- The first byte is kept (R104). -/
theorem execVsAcc_drops : Drops execVsAcc := fun s => by
  simp only [execVsAcc, tailless_state, tailless_rsp]
  split
  · simp only [seenThrough_ite]; rfl
  · rfl

theorem execVsRej_drops : Drops execVsRej := fun s => by
  simp only [execVsRej, tailless_state, tailless_rsp]
  split
  · simp only [seenThrough_ite]; rfl
  · rfl

/-- The second byte is stored, whatever it is (R18, R106). -/
theorem execNcAcc_blind : Blind execNcAcc := fun s => by
  simp only [execNcAcc, tailless_state, tailless_rsp, tailless_cmd_length, tailless_clockInTime, tailless_refIdx]
  split
  · simp only [seenThrough_ite, seenThrough_next]
    simp only [tailless_eq, consume, blankTail_append]
  · rfl

/-- The third byte as the second (R18, R107). -/
theorem execNcFin_blind : Blind execNcFin := fun s => by
  simp only [execNcFin, tailless_state, tailless_rsp, tailless_cmd_length, tailless_clockInTime, tailless_refIdx]
  split
  · simp only [seenThrough_ite, seenThrough_next]
    simp only [tailless_eq, consume, blankTail_append]
  · rfl

theorem execNcRej_drops : Drops execNcRej := fun s => by
  simp only [execNcRej, tailless_state, tailless_rsp]
  split
  · simp only [seenThrough_ite]; rfl
  · rfl

theorem execRdAcc_drops : Drops execRdAcc := fun s => by
  simp only [execRdAcc, tailless_state, tailless_rsp]
  split
  · rw [seenThrough_ite]; rfl
  · rfl

/-- The render reads the first byte alone (R120). -/
theorem execRdFin_drops : Drops execRdFin := fun s => by
  simp only [execRdFin, tailless_state, tailless_rsp, tailless_cmd0, tailless_pay, renderFrame_tailless]
  split
  · rw [seenThrough_ite]; rfl
  · rfl

/-- The report names the first byte (R163). -/
theorem execRdBad_drops : Drops execRdBad := fun s => by
  simp only [execRdBad, tailless_state, tailless_rsp, tailless_cmd0, tailless_pay]
  split
  · rw [seenThrough_ite]; rfl
  · rfl

theorem execEos_drops : Drops execEos := fun s => by
  simp only [execEos, tailless_state, tailless_rsp]
  split
  · rfl
  · rfl
  · rfl

theorem execHaltNop_drops : Drops execHaltNop := fun s => by
  simp only [execHaltNop, tailless_state]
  split
  · rfl
  · rfl

/-! ### The other rows -/

theorem execRstOk_drops : Drops execRstOk := fun s => by
  simp only [execRstOk, seenThrough_ite]
  rfl

theorem execRstCfgerr_drops : Drops execRstCfgerr := fun s => by
  simp only [execRstCfgerr, seenThrough_ite]
  rfl

theorem execRspMatch_drops : Drops execRspMatch := fun s => by
  simp only [execRspMatch, seenThrough_ite]
  rfl

theorem execRspEos_drops : Drops execRspEos := fun s => by
  simp only [execRspEos, seenThrough_ite]
  rfl

/-- SETPAGE overwrites the two bytes (R71). -/
theorem execSetpage_blind (p : BitVec 3) (c a : Byte) : Blind (execSetpage p c a) := fun s => by
  simp only [execSetpage, seenThrough_next, tailless_eq, blankTail_blankTail]

theorem execCol_drops (v : Byte) : Drops (execCol v) := fun s => by
  simp only [execCol, tailless_args_b0]
  cases pageOf s.args.cmd.b0 with
  | none => rfl
  | some p => rw [seenThrough_ite]; rfl

theorem execPageDecode_drops : Drops execPageDecode := fun s => by
  simp only [execPageDecode, tailless_args_b0]
  cases pageOf s.args.cmd.b0 with
  | none => rfl
  | some p => rfl

theorem execRender_drops : Drops execRender := fun _ => congrArg Host.Outcome.next (renderFrame_tailless ..)

theorem execSetPixel_drops (x : BitVec 9) (y : BitVec 6) (on : Bool) : Drops (execSetPixel x y on) := fun s => by
  simp only [execSetPixel, seenThrough_ite]
  rfl

theorem execError_drops (code : BitVec 3) (info : Byte) : Drops (execError code info) := fun s => by
  simp only [execError, seenThrough_ite]
  rfl

theorem execTimedelta_drops : Drops execTimedelta := fun s => by
  simp only [execTimedelta, seenThrough_ite]
  rfl

theorem execClassifyStart_drops : Drops execClassifyStart := fun s => by
  simp only [execClassifyStart, seenThrough_ite]
  rfl

theorem execClassifyClockPeriod_drops : Drops execClassifyClockPeriod := fun s => by
  simp only [execClassifyClockPeriod, seenThrough_ite]
  rfl

theorem execMatchPattern_drops : Drops execMatchPattern := fun s => by
  simp only [execMatchPattern, seenThrough_ite]
  rfl

/-- No operation reads the second or third byte (R18). -/
theorem exec_blind (i : Instr) : Blind (exec i) := by
  cases i with
  | fsA => exact execFsA_drops.blind
  | fsB => exact execFsB_drops.blind
  | vsAcc => exact execVsAcc_drops.blind
  | vsRej => exact execVsRej_drops.blind
  | ncAcc => exact execNcAcc_blind
  | ncFin => exact execNcFin_blind
  | ncRej => exact execNcRej_drops.blind
  | rdAcc => exact execRdAcc_drops.blind
  | rdFin => exact execRdFin_drops.blind
  | rdBad => exact execRdBad_drops.blind
  | eos => exact execEos_drops.blind
  | haltNop => exact execHaltNop_drops.blind
  | rstOk => exact execRstOk_drops.blind
  | rstCfgerr => exact execRstCfgerr_drops.blind
  | setpage p c a => exact execSetpage_blind p c a
  | col v => exact (execCol_drops v).blind
  | reqNone => exact (issueRequest_drops 0).blind
  | reqStart => exact (issueRequest_drops 1).blind
  | reqClk1 => exact (issueRequest_drops 2).blind
  | reqClk2 => exact (issueRequest_drops 3).blind
  | rspMatch => exact execRspMatch_drops.blind
  | rspEos => exact execRspEos_drops.blind
  | setPixel x y on => exact (execSetPixel_drops x y on).blind
  | present => exact Drops.blind fun _ => rfl
  | record page device => exact Drops.blind fun _ => rfl
  | error code info => exact (execError_drops code info).blind
  | timedelta => exact execTimedelta_drops.blind
  | classifyStart => exact execClassifyStart_drops.blind
  | classifyClockPeriod => exact execClassifyClockPeriod_drops.blind
  | pack => exact Drops.blind fun _ => rfl
  | sel => exact Drops.blind fun _ => rfl
  | pageDecode => exact execPageDecode_drops.blind
  | render => exact execRender_drops.blind
  | matchPattern => exact execMatchPattern_drops.blind

/-- The wait after an operation depends on `state` and `track` (R25, R100). -/
theorem issueWait_tailless (o : Res) : issueWait (seenThrough tailless o) = seenThrough tailless (issueWait o) := by
  cases o with
  | next s =>
    rw [seenThrough_next, issueWait_next, issueWait_next]
    rfl
  | fault e => rfl
  | refused r => rfl

/-! ### Fetching -/

/-- What fetching answers, with the bytes blanked in every state of it. -/
def fetchedTailless : Fetched → Fetched
  | .done o => .done (seenThrough tailless o)
  | .run i s => .run i (tailless s)

theorem fetchedTailless_idem (x : Fetched) : fetchedTailless (fetchedTailless x) = fetchedTailless x := by
  cases x with
  | done o => exact congrArg Fetched.done (seenThrough_tailless_idem o)
  | run i s => exact congrArg (Fetched.run i) (tailless_tailless s)

theorem selectOp_tailless (s : State) : selectOp (tailless s) = fetchedTailless (selectOp s) := by
  have hdomain (r : Response) : inDomain (tailless s) r = inDomain s r := rfl
  simp only [selectOp, tailless_rsp, hdomain, transitionKey_tailless]
  split
  · rfl
  · split
    · split
      · rfl
      · rfl
    · rfl

theorem Drops.deliver {f : State → Res} (hf : Drops f) (s : State) :
    deliver (f (tailless s)) = fetchedTailless (deliver (f s)) := by
  rw [hf s]
  cases f s with
  | next t => exact selectOp_tailless t
  | fault e => rfl
  | refused r => rfl

/-- A test that reads none of the bytes takes the same branch. -/
theorem ite_fetchedTailless {c : Prop} [Decidable c] {x y x' y' : Fetched} (hx : x' = fetchedTailless x)
    (hy : y' = fetchedTailless y) : (if c then x' else y') = fetchedTailless (if c then x else y) := by
  rw [hx, hy, apply_ite fetchedTailless]

theorem frontEndSample_tailless (lv : Levels) (s : State) :
    frontEndSample lv (tailless s) = fetchedTailless (frontEndSample lv s) := by
  refine ite_fetchedTailless rfl ?_
  simp only [tailless_request, tailless_prevValid, tailless_prev]
  cases firstMatch (patternSet s.request) s.prevValid s.prev lv with
  | none => rfl
  | some alt => exact execRspMatch_drops.deliver (drivePins alt s.nextIdx lv (acceptSample lv s))

theorem frontEndEnd_tailless (s : State) : frontEndEnd (tailless s) = fetchedTailless (frontEndEnd s) :=
  ite_fetchedTailless rfl (execRspEos_drops.deliver { s with eosSeen := true })

theorem handIn_tailless (r : Response) (s : State) : handIn r (tailless s) = fetchedTailless (handIn r s) := by
  cases r with
  | matched alt idx lv => exact execRspMatch_drops.deliver { s with rspAlt := alt, rspIdx := idx, rspLv := lv }
  | endOfStream => exact execRspEos_drops.deliver s

/-- A direct call brings operands of its own. -/
theorem directCall_tailless (f : Format) (w : Nat) (args : Args) (s : State) :
    fetchedTailless (directCall f w args (tailless s)) = fetchedTailless (directCall f w args s) := by
  by_cases hport : s.portLevel = .levelB ∧ f = .rsp
  · rw [directCall_absent args hport, directCall_absent (s := tailless s) args hport]
  · cases hdecode : decode f w with
    | ok i =>
      rw [directCall_ok args hport hdecode, directCall_ok (s := tailless s) args hport hdecode]
      exact congrArg (Fetched.run i) (tailless_args s args)
    | error e => rw [directCall_error args hport hdecode, directCall_error (s := tailless s) args hport hdecode]

theorem accept_tailless (item : Input) (s : State) :
    fetchedTailless (accept item (tailless s)) = fetchedTailless (accept item s) := by
  have hidem {x' x : Fetched} (hx : x' = fetchedTailless x) : fetchedTailless x' = fetchedTailless x := by
    rw [hx, fetchedTailless_idem]
  cases item with
  | sample lv => exact hidem (ite_fetchedTailless (frontEndSample_tailless lv s) rfl)
  | endMark => exact hidem (ite_fetchedTailless (frontEndEnd_tailless s) rfl)
  | response r => exact hidem (ite_fetchedTailless (handIn_tailless r s) rfl)
  | rstAssert => exact hidem rfl
  | rstRelease m n d => rfl
  | call f w args => exact directCall_tailless f w args s

theorem fetchInReset_tailless (s : State) : fetchInReset (tailless s) = fetchedTailless (fetchInReset s) := by
  simp only [fetchInReset, tailless_inputs, releaseOp_eq]
  split
  · rfl
  · rfl
  · rfl

/-- Fetching reads neither the second nor the third byte (R18). -/
theorem fetch_tailless (s : State) : fetchedTailless (fetch (tailless s)) = fetchedTailless (fetch s) := by
  cases hrst : s.rst with
  | true => simp only [fetch, tailless_rst, hrst, if_true, fetchInReset_tailless, fetchedTailless_idem]
  | false =>
    rcases hin : s.inputs with _ | ⟨item, rest⟩
    · simp only [fetch, tailless_rst, hrst, tailless_inputs, hin]
      exact (congrArg fetchedTailless (selectOp_tailless s)).trans (fetchedTailless_idem _)
    · by_cases hitem : item = .rstAssert
      · simp only [fetch, tailless_rst, hrst, tailless_inputs, hin, hitem]
        exact fetchedTailless_idem (.done (.next (assertReset { s with inputs := rest })))
      · rw [fetch_of_item hrst hin hitem, fetch_of_item (s := tailless s) hrst hin hitem, tailless_rsp]
        split
        · rw [selectOp_tailless, fetchedTailless_idem]
        · exact accept_tailless item { s with inputs := rest }

/-! ### The step -/

theorem step_blind : Blind step := fun s => by
  have hf := fetch_tailless s
  cases hx : fetch (tailless s) with
  | done o =>
    cases hy : fetch s with
    | done o' =>
      rw [hx, hy] at hf
      simp only [step, hx, hy]
      exact Fetched.done.inj hf
    | run i t => rw [hx, hy] at hf; cases hf
  | run i t =>
    cases hy : fetch s with
    | done o => rw [hx, hy] at hf; cases hf
    | run i' t' =>
      rw [hx, hy] at hf
      obtain ⟨rfl, ht⟩ := Fetched.run.inj hf
      rw [step_of_run hx, step_of_run hy, ← issueWait_tailless, (exec_blind i).congr ht, issueWait_tailless]

/-- Settles O30: each operation and the step answer the same, but for the bytes, on the one state in which they are
blanked. -/
theorem commandTailNeverRead : Obligations.CommandTailNeverRead := by
  unfold Obligations.CommandTailNeverRead
  exact fun s s' h => ⟨fun i => (exec_blind i).congr h, step_blind.congr h⟩

end Sys2Proof.Machine.CommandTail
